-- ==== Sys2Proof/Word.lean ====
section
/-! DEFINITION. Words and indices of the part: bytes, time base values, sets as bit masks, and the index types of
stations, lines, axes, guard groups, lamp lines, zones and alert slots (00_scope, Conventions). -/

namespace Sys2Proof

/-- A byte of the host link. -/
abbrev Byte := BitVec 8

/-- A value of the time base: an unsigned count of milliseconds that wraps after 0xFFFFFFFF (00_scope, Time). -/
abbrev Time := BitVec 32

/-- ST0..ST11. -/
abbrev StationId := Fin 12
/-- IN0..IN39. -/
abbrev LineId := Fin 40
/-- AX0..AX7. -/
abbrev AxisId := Fin 8
/-- GG0..GG5. -/
abbrev GroupId := Fin 6
/-- LP0..LP23. -/
abbrev LampId := Fin 24
/-- Z0..Z3. -/
abbrev ZoneId := Fin 4
/-- A slot of the alert table, 0..23. -/
abbrev SlotId := Fin 24

/-- An axis set, one bit per axis, bit 0 for AX0 (R170). -/
abbrev AxisSet := BitVec 8
/-- A set of input lines, one bit per line. -/
abbrev LineSet := BitVec 40

end Sys2Proof
end

