-- ==== Sys2Proof/Syntax.lean ====
section
/-! DEFINITION. The commands of the part: one constructor for each row of spec/opcode_table.json, with the row's operands.
A host request carries its TAG and its payload bytes, as the request handler takes them from a good frame (R174). -/

namespace Sys2Proof

/-- One of the two legs of an H-bridge (R105). -/
inductive LegId where
  | first
  | second
  deriving DecidableEq, Repr

/-- A sound output: a zone tone output ZT0..ZT3 or the chime CHM (R146, R149). -/
inductive SoundOut where
  | zone (z : ZoneId)
  | chime
  deriving DecidableEq, Repr

/-- The commands, in the order of the table. -/
inductive Instr where
  -- host requests of the link unit
  | ident (tag : Byte) (payload : List Byte)
  | status (tag : Byte) (payload : List Byte)
  | resetReq (tag : Byte) (payload : List Byte)
  | setLink (tag : Byte) (payload : List Byte)
  | noticeEnable (tag : Byte) (payload : List Byte)
  -- configuration requests
  | cfgGallery (tag : Byte) (payload : List Byte)
  | cfgStation (tag : Byte) (payload : List Byte)
  | cfgLine (tag : Byte) (payload : List Byte)
  | cfgAxis (tag : Byte) (payload : List Byte)
  | cfgGuard (tag : Byte) (payload : List Byte)
  | cfgSupply (tag : Byte) (payload : List Byte)
  | stepWrite (tag : Byte) (payload : List Byte)
  | stepRead (tag : Byte) (payload : List Byte)
  -- operation requests
  | openReq (tag : Byte) (payload : List Byte)
  | closeReq (tag : Byte) (payload : List Byte)
  | play (tag : Byte) (payload : List Byte)
  | cancel (tag : Byte) (payload : List Byte)
  | hold (tag : Byte) (payload : List Byte)
  | release (tag : Byte) (payload : List Byte)
  | stop (tag : Byte) (payload : List Byte)
  | rearm (tag : Byte) (payload : List Byte)
  | axisMove (tag : Byte) (payload : List Byte)
  | axisHome (tag : Byte) (payload : List Byte)
  | axisClear (tag : Byte) (payload : List Byte)
  | lampSet (tag : Byte) (payload : List Byte)
  | tone (tag : Byte) (payload : List Byte)
  -- queries
  | queryStation (tag : Byte) (payload : List Byte)
  | queryAxis (tag : Byte) (payload : List Byte)
  | queryQueue (tag : Byte) (payload : List Byte)
  | queryLines (tag : Byte) (payload : List Byte)
  | queryAlerts (tag : Byte) (payload : List Byte)
  | queryGallery (tag : Byte) (payload : List Byte)
  -- alert requests
  | alertAck (tag : Byte) (payload : List Byte)
  | alertCall (tag : Byte) (payload : List Byte)
  | alertMask (tag : Byte) (payload : List Byte)
  | alertClearOverflow (tag : Byte) (payload : List Byte)
  -- a good frame whose TYPE is no request code
  | unknownType (type : Byte) (tag : Byte) (payload : List Byte)
  -- resets and the link
  | resetPin
  | started
  | rxByte (b : Byte)
  | framingError
  | linkBreak
  | gapExpiry
  | frameSent
  -- input lines; bit k of pins is the level of pin INk, set for high
  | inputSample (pins : LineSet)
  | lineDebounced (line : LineId)
  | stuckTimerExpiry (line : LineId)
  -- stations, queue and players
  | tallyLeakExpiry (st : StationId)
  | waitFlashExpiry (st : StationId)
  | cooldownExpiry (st : StationId)
  | restExpiry (st : StationId)
  | entryBecomesSenior (st : StationId)
  | waitTimeExpiry (st : StationId)
  -- axes, encoders and bridges; a and b are the new encoder phases, true for high
  | profileInterval
  | followingErrorJam (ax : AxisId)
  | encoderTransition (ax : AxisId) (a : Bool) (b : Bool)
  | pwmPeriodStart
  | pwmOnTimeEnd (ax : AxisId)
  | deadTimeEnd (ax : AxisId) (leg : LegId)
  -- the supply monitor
  | supplySample (sample : Fin 1024)
  | warnConfirm
  | tripConfirm
  | recoveryTimerExpiry
  -- alerts, lamps and sound
  | escalationDeadlineExpiry (slot : SlotId)
  | chimeRepeatExpiry
  | chimeNoteEnd
  | toneEnd (z : ZoneId)
  | flashPhase
  | toneWaveHalfPeriod (out : SoundOut)
  deriving DecidableEq, Repr

end Sys2Proof
end

