-- ==== Sys2Proof/WellFormed.lean ====
section
/-! DEFINITION. When a command can occur at all: a request's payload fits a frame (R170: LEN lies in 2..62, so a payload has
0..60 bytes), and an UNKNOWN_TYPE frame carries no request code (R174). Every other operand is in range by its type. -/

namespace Sys2Proof

/-- The request codes of the catalogue (Messages on the Host Link, The request catalogue). -/
def requestCodes : List Byte :=
  [0x01, 0x02, 0x03, 0x04, 0x05, 0x10, 0x11, 0x12, 0x13, 0x14, 0x15, 0x16, 0x17,
   0x20, 0x21, 0x22, 0x23, 0x24, 0x25, 0x26, 0x27, 0x28, 0x29, 0x2A, 0x2B, 0x2C,
   0x30, 0x31, 0x32, 0x33, 0x34, 0x35, 0x38, 0x39, 0x3A, 0x3B]

/-- A payload that a frame can carry (R170). -/
def payloadFits (p : List Byte) : Bool := p.length ≤ 60

/-- The command can occur. -/
def Instr.wellFormed : Instr → Bool
  | .ident _ p | .status _ p | .resetReq _ p | .setLink _ p | .noticeEnable _ p
  | .cfgGallery _ p | .cfgStation _ p | .cfgLine _ p | .cfgAxis _ p | .cfgGuard _ p | .cfgSupply _ p
  | .stepWrite _ p | .stepRead _ p | .openReq _ p | .closeReq _ p | .play _ p | .cancel _ p
  | .hold _ p | .release _ p | .stop _ p | .rearm _ p | .axisMove _ p | .axisHome _ p | .axisClear _ p
  | .lampSet _ p | .tone _ p | .queryStation _ p | .queryAxis _ p | .queryQueue _ p | .queryLines _ p
  | .queryAlerts _ p | .queryGallery _ p | .alertAck _ p | .alertCall _ p | .alertMask _ p
  | .alertClearOverflow _ p => payloadFits p
  | .unknownType ty _ p => payloadFits p && !(requestCodes.contains ty)
  | .resetPin | .started | .rxByte _ | .framingError | .linkBreak | .gapExpiry | .frameSent
  | .inputSample _ | .lineDebounced _ | .stuckTimerExpiry _ | .tallyLeakExpiry _ | .waitFlashExpiry _
  | .cooldownExpiry _ | .restExpiry _ | .entryBecomesSenior _ | .waitTimeExpiry _ | .profileInterval
  | .followingErrorJam _ | .encoderTransition _ _ _ | .pwmPeriodStart | .pwmOnTimeEnd _ | .deadTimeEnd _ _
  | .supplySample _ | .warnConfirm | .tripConfirm | .recoveryTimerExpiry | .escalationDeadlineExpiry _
  | .chimeRepeatExpiry | .chimeNoteEnd | .toneEnd _ | .flashPhase | .toneWaveHalfPeriod _ => true

end Sys2Proof
end

