-- ==== Sys2Proof/Machine/Bytes.lean ====
section
/-! DEFINITION. Byte order and sign of the fields of payloads: multi-byte fields least significant byte first, signed fields
two's complement (R170), positions saturated at the ends of the signed 32-bit range (Messages on the Host Link, Query replies). -/

namespace Sys2Proof.Machine

open Sys2Proof

/-- The byte at place `i` of a payload. -/
def u8 (p : List Byte) (i : Nat) : Nat := (p.getD i 0).toNat
/-- The two-byte field at place `i`. -/
def u16 (p : List Byte) (i : Nat) : Nat := u8 p i + 256 * u8 p (i + 1)
/-- The three-byte field at place `i`. -/
def u24 (p : List Byte) (i : Nat) : Nat := u16 p i + 65536 * u8 p (i + 2)
/-- The four-byte field at place `i`. -/
def u32 (p : List Byte) (i : Nat) : Nat := u16 p i + 65536 * u16 p (i + 2)
/-- Two's complement reading of an `n`-bit number. -/
def signed (n v : Nat) : Int := if v < 2 ^ (n - 1) then v else (v : Int) - 2 ^ n
def i24 (p : List Byte) (i : Nat) : Int := signed 24 (u24 p i)
def i32 (p : List Byte) (i : Nat) : Int := signed 32 (u32 p i)

/-- The low eight bits of a number. -/
def byte (n : Nat) : Byte := BitVec.ofNat 8 n
def le16 (n : Nat) : List Byte := [byte n, byte (n / 256)]
def le32 (n : Nat) : List Byte := [byte n, byte (n / 256), byte (n / 65536), byte (n / 16777216)]
/-- A signed two-byte field. -/
def le16i (v : Int) : List Byte := le16 (BitVec.ofInt 16 v).toNat
/-- A value held within `lo..hi`. -/
def clampInt (lo hi v : Int) : Int := max lo (min hi v)
/-- A signed four-byte field, saturated. -/
def le32i (v : Int) : List Byte := le32 (BitVec.ofInt 32 (clampInt (-2147483648) 2147483647 v)).toNat
/-- A flag as bit `k` of a flags byte. -/
def flagBit (b : Bool) (k : Nat) : Nat := if b then 2 ^ k else 0
/-- An index that may be absent: 0xFF for none (R170). -/
def optByte (o : Option Nat) : Byte := match o with
  | some n => byte n
  | none => 0xFF

/-- Member `i` of a set held as bits. -/
def hasBit {w : Nat} (v : BitVec w) (i : Nat) : Bool := v.getLsbD i
def addBit {w : Nat} (v : BitVec w) (i : Nat) : BitVec w := v ||| (BitVec.ofNat w 1 <<< i)
def delBit {w : Nat} (v : BitVec w) (i : Nat) : BitVec w := v &&& ~~~(BitVec.ofNat w 1 <<< i)
/-- The number of members. -/
def countBits {w : Nat} (v : BitVec w) : Nat := ((List.finRange w).filter fun i => hasBit v i.val).length

/-- An index below `n`, or none. -/
def toFin? (n v : Nat) : Option (Fin n) := if h : v < n then some ⟨v, h⟩ else none

end Sys2Proof.Machine
end

