-- ==== Sys2Proof/Config.lean ====
section
/-! DEFINITION. The fixed quantities of the part: sizes of its FIFO, queues and stores, identity codes, fixed times. -/

namespace Sys2Proof.Config

/-- Bytes the receive FIFO holds (R171). -/
def fifoSize : Nat := 64
/-- Replies the reply queue holds (R175). -/
def replyQueueSize : Nat := 4
/-- Notices the notice queue holds (R177). -/
def noticeQueueSize : Nat := 32
/-- Entries the demand queue holds (R39). -/
def demandQueueSize : Nat := 8
/-- Step records of the store (R58). -/
def stepCount : Nat := 1024
/-- Bytes of a step record (Messages on the Host Link, Step record). -/
def stepBytes : Nat := 12
/-- IDENT: vendor code, part code and revision (R182). -/
def vendorCode : Nat := 0x57
def partCode : Nat := 0x0640
def revision : Nat := 3
/-- The wait-flash time, in ms (R9). -/
def waitFlashMs : Nat := 2000
/-- One note of the chime, in ms (R149). -/
def chimeNoteMs : Nat := 600
/-- Pitches of the chime's two notes, in Hz, and their amplitude of 15 steps (R149, its states table). -/
def chimeFirstHz : Nat := 880
def chimeSecondHz : Nat := 660
def chimeAmplitude : Nat := 15
/-- One half of the flash phase, in ms (R139). -/
def flashHalfMs : Nat := 250
/-- Raise of the encoder error count at an illegal transition, its end, and the suspect level (R117, R118). -/
def encoderCharge : Nat := 8
def encoderErrMax : Nat := 255
def encoderSuspect : Nat := 128
/-- Ends of the raw quadrature count (R115). -/
def rawMin : Int := -2147483648
def rawMax : Int := 2147483647
/-- Saturation of the following error (R94). -/
def followingMax : Int := 32767
/-- Steps that a player may take within one event: loops do not nest, so each MARK of a window of at most 256 steps is
taken at most once per event and its loop runs at most 255 times (R63, R72; log 21). -/
def stepsPerEvent : Nat := 65792
/-- Rounds of passes and sequence scans that one event can need (R51, R55; log 21). -/
def roundsPerEvent : Nat := 64

/-- The choices that the spec leaves open: the place taken at the n-th choice, free (log 5). -/
opaque freeChoice : Nat → Nat

end Sys2Proof.Config
end

