-- ==== Sys2Proof/Machine/State.lean ====
section
/-! DEFINITION. The state of the part: every record, queue, counter, mode, flag and output the spec gives its eleven blocks,
as plain data, and the state right after a reset. A timer is held as the time base value at which it runs out, `none` when it
is stopped (log 10). -/

namespace Sys2Proof.Machine

open Sys2Proof

/-- Reasons for a step to end in a fault: none. The spec gives every command an effect on the part's state; jams, breaks,
trips and show faults are states of the part, not ends of a run. -/
inductive Fault where
  deriving DecidableEq, Repr

/-- Reasons for a step to be refused. -/
inductive Refusal where
  /-- Raised by an arm of exec whose command has no meaning yet; safe, since nothing is claimed of it. No arm raises it. -/
  | notModelled (mnemonic : String)
  deriving DecidableEq, Repr

/-! ### Input line unit -/

/-- A line's role with its target (R23). -/
inductive LineRole where
  | unused
  | demand (st : StationId)
  | guard (g : GroupId)
  | key
  | home (ax : AxisId)
  | spare
  deriving DecidableEq, Repr

/-- The configuration of a line (first table of Input Lines and Presses). -/
structure LineCfg where
  role : LineRole := .unused
  activeLow : Bool := false
  debounce : Nat := 20
  stuckLimit : Nat := 0
  zone : ZoneId := 0
  deriving DecidableEq, Repr

/-- A line record with its runtime fields (second table). `fresh`: the next sample sets the debounced level without a
recognition (R24, R25). -/
structure Line where
  cfg : LineCfg := {}
  raw : Bool := false
  debounced : Bool := false
  count : Nat := 0
  pressed : Bool := false
  released : Bool := false
  stuck : Bool := false
  stuckAt : Option Time := none
  fresh : Bool := true
  deriving DecidableEq, Repr

/-- The input line unit. `sampled`: a sample has been taken since the reset; `sampleTime`: when the latest was taken. -/
structure LineUnit where
  lines : Vector Line 40 := Vector.replicate 40 {}
  sampled : Bool := false
  sampleTime : Time := 0
  deriving DecidableEq, Repr

/-! ### Stations and show players -/

/-- Gallery modes (R1). -/
inductive Mode where
  | closed
  | opening
  | openMode
  | closing
  deriving DecidableEq, Repr

/-- How far a close has come: nothing closing, draining (R4), stopping the homings (R5), parking (R6). -/
inductive ClosePhase where
  | none
  | draining
  | stoppingHoming
  | parking
  deriving DecidableEq, Repr

/-- The stored fields of CFG_GALLERY (R44, R113, R147, R157). -/
structure GalleryCfg where
  capacity : Nat := 0
  starve : Nat := 0
  escalation : Nat := 0
  chimeRepeat : Nat := 60
  pwmKhz : Nat := 20
  deadTime : Nat := 4
  volumes : Vector Nat 4 := Vector.replicate 4 8
  deriving DecidableEq, Repr

structure Gallery where
  mode : Mode := .closed
  safetyFixed : Bool := false
  closing : ClosePhase := .none
  cfg : GalleryCfg := {}
  deriving DecidableEq, Repr

/-- The station record, written by CFG_STATION (R7). -/
structure StationRec where
  enabled : Bool := false
  zone : ZoneId := 0
  axes : AxisSet := 0
  windowBase : Nat := 0
  sizeCode : Nat := 0
  cooldown : Nat := 0
  tripLevel : Nat := 0
  leak : Nat := 1000
  rest : Nat := 60
  ready : Option LampId := none
  wait : Option LampId := none
  group : List LampId := []
  deriving DecidableEq, Repr

/-- Station states (R7's state table). -/
inductive StState where
  | unconfigured
  | standby
  | ready
  | queued
  | running
  | paused
  | stopping
  | cooldown
  | resting
  | halted
  | outOfService
  deriving DecidableEq, Repr

/-- Stop causes, in rising rank (R16, R17). -/
inductive StopCause where
  | controlled
  | fault
  | safety
  deriving DecidableEq, Repr

/-- Player states (R62). -/
inductive PlState where
  | idle
  | playing
  | held
  | aborted
  deriving DecidableEq, Repr

/-- What the current step waits for (R62). -/
inductive WaitKind where
  | none
  | time
  | axes
  | finish
  deriving DecidableEq, Repr

/-- An armed lamp pattern; `above`: the encoder was above the trigger position at arming (R69). -/
structure Trigger where
  axis : AxisId
  position : Int
  above : Bool
  setMask : Byte
  clearMask : Byte
  deriving DecidableEq, Repr

/-- Causes of a show fault (R74). -/
inductive ShowFault where
  | stepInvalid
  | stepRange
  deriving DecidableEq, Repr

/-- The player context (R62). `reported`: the wait axes reported at rest since the wait began (R67). `deadline`: when a
TIME wait runs out while it counts; `remaining`: its time left as kept by HOLD (R66). -/
structure Player where
  state : PlState := .idle
  current : Nat := 0
  wait : WaitKind := .none
  waitAxes : AxisSet := 0
  reported : AxisSet := 0
  deadline : Option Time := none
  remaining : Nat := 0
  loopCount : Nat := 0
  loopMark : Option Nat := none
  trigger : Option Trigger := none
  lastFault : Option ShowFault := none
  deriving DecidableEq, Repr

/-- A station: record, runtime fields (R8) and player context. -/
structure Station where
  cfg : StationRec := {}
  state : StState := .unconfigured
  tally : Nat := 0
  restOwed : Bool := false
  cause : Option StopCause := none
  cooldownAt : Option Time := none
  restAt : Option Time := none
  leakAt : Option Time := none
  flashAt : Option Time := none
  player : Player := {}
  deriving DecidableEq, Repr

/-! ### Admission unit -/

/-- Who asked last for a show (R40, R41). -/
inductive Source where
  | visitor
  | host
  deriving DecidableEq, Repr

/-- An entry of the demand queue (R39). -/
structure Entry where
  station : StationId
  source : Source
  arrival : Time
  presses : Nat
  senior : Bool
  deriving DecidableEq, Repr

/-- The admission unit; the owners are held with the axes. -/
structure Admission where
  queue : List Entry := []
  claimed : Nat := 0
  hold : Bool := false
  homingWait : AxisSet := 0
  parkingWait : AxisSet := 0
  deriving DecidableEq, Repr

/-! ### Axis profile unit -/

/-- The axis record, written by CFG_AXIS (R80). `homePositive`: home direction POSITIVE. -/
structure AxisRec where
  enabled : Bool := false
  ratedDraw : Nat := 1
  vmax : Nat := 256
  acc : Nat := 16
  feLimit : Nat := 200
  feTime : Nat := 200
  softMin : Int := -8000000
  softMax : Int := 8000000
  homePositive : Bool := false
  homePos : Int := 0
  homingSpeed : Nat := 64
  travel : Nat := 16000000
  park : Option Int := none
  group : GroupId := 0
  kp : Nat := 0
  kf : Nat := 0
  dutymax : Nat := 0
  encInvert : Bool := false
  deriving DecidableEq, Repr

/-- Axis states (R82's state table). -/
inductive AxState where
  | unconfigured
  | unhomed
  | homing
  | idle
  | moving
  | stopping
  | faulted
  deriving DecidableEq, Repr

/-- The owner of an axis (R54). -/
inductive Owner where
  | none
  | station (st : StationId)
  | gallery
  deriving DecidableEq, Repr

/-- What becomes of the target when a controlled stop ends (R90). -/
inductive StopReq where
  | keep
  | discard
  deriving DecidableEq, Repr

inductive HomingPhase where
  | away
  | seek
  | captured
  deriving DecidableEq, Repr

inductive FaultKind where
  | jam
  | encoder
  | homingFailed
  deriving DecidableEq, Repr

/-- An axis: record, owner, runtime fields (R82). `cmd`: commanded position in sub-counts; `target` in counts;
`feTimer`: elapsed ms of the running following-error timer; `homingLost`: its home line was taken away while it homed (R84). -/
structure Axis where
  cfg : AxisRec := {}
  state : AxState := .unconfigured
  owner : Owner := .none
  homed : Bool := false
  offset : Int := 0
  cmd : Int := 0
  target : Option Int := none
  vel : Nat := 0
  negative : Bool := false
  override : Nat := 100
  stopReq : Option StopReq := none
  phase : Option HomingPhase := none
  homingLost : Bool := false
  feTimer : Option Nat := none
  faultKind : Option FaultKind := none
  braked : Bool := true
  deriving DecidableEq, Repr

/-- The axis profile unit; `derate` in percent (R86). -/
structure AxisUnit where
  axes : Vector Axis 8 := Vector.replicate 8 {}
  derate : Nat := 100
  deriving DecidableEq, Repr

/-! ### Drive unit -/

/-- Output states of a bridge (R105). -/
inductive OutState where
  | float
  | brake
  | drive
  deriving DecidableEq, Repr

/-- The two switches of a leg: both off, low side on, high side on, or both off in the dead time before the low or the
high side turns on (R111). -/
inductive Leg where
  | off
  | low
  | high
  | deadLow
  | deadHigh
  deriving DecidableEq, Repr

/-- A bridge with its encoder counter (drive unit table). `held`: the held phase pair (A, B), none before the first
observation (R115). -/
structure Bridge where
  out : OutState := .float
  first : Leg := .off
  second : Leg := .off
  buffered : Int := 0
  loaded : Int := 0
  raw : Int := 0
  held : Option (Bool × Bool) := none
  err : Nat := 0
  deriving DecidableEq, Repr

/-- The drive unit; `pwmKhz` and `deadTime` are those of the period being generated (R113). -/
structure DriveUnit where
  bridges : Vector Bridge 8 := Vector.replicate 8 {}
  pwmKhz : Nat := 20
  deadTime : Nat := 4
  deriving DecidableEq, Repr

/-! ### Safety monitor -/

inductive GuardState where
  | unarmed
  | clear
  | broken
  deriving DecidableEq, Repr

/-- A guard group (R121). -/
structure GuardGroup where
  zone : ZoneId := 0
  state : GuardState := .unarmed
  brokenLines : LineSet := 0
  deriving DecidableEq, Repr

/-- The settings of CFG_SUPPLY (R132). -/
structure SupplyCfg where
  warn : Nat := 0
  trip : Nat := 0
  hyst : Nat := 0
  warnConfirm : Nat := 8
  tripConfirm : Nat := 2
  recovery : Nat := 1000
  deriving DecidableEq, Repr

inductive SupplyState where
  | normal
  | low
  | tripped
  | recovering
  deriving DecidableEq, Repr

/-- The supply monitor (R132 to R134). -/
structure Supply where
  cfg : SupplyCfg := {}
  state : SupplyState := .normal
  latest : Nat := 0
  warnCount : Nat := 0
  tripCount : Nat := 0
  recoveryAt : Option Time := none
  deriving DecidableEq, Repr

structure Safety where
  groups : Vector GuardGroup 6 := Vector.replicate 6 {}
  supply : Supply := {}
  deriving DecidableEq, Repr

/-! ### Lamps and sound -/

/-- Commanded states of a lamp line (R139). -/
inductive LampState where
  | off
  | on
  | flash
  deriving DecidableEq, Repr

/-- The lamp lines and the flash phase; `half`: ms spent in the present half of the phase (R139). -/
structure LampUnit where
  lamps : Vector LampState 24 := Vector.replicate 24 .off
  lit : Bool := true
  half : Nat := 0
  deriving DecidableEq, Repr

/-- A zone tone output (R146); `level`: the square wave stands at its amplitude level. -/
structure ToneOut where
  playing : Bool := false
  pitch : Nat := 0
  amplitude : Nat := 0
  effective : Nat := 0
  endTime : Time := 0
  level : Bool := false
  deriving DecidableEq, Repr

inductive ChimeState where
  | silent
  | firstNote
  | secondNote
  deriving DecidableEq, Repr

/-- The chime output (R149); `endTime`: when the present note ends. -/
structure Chime where
  state : ChimeState := .silent
  endTime : Option Time := none
  level : Bool := false
  deriving DecidableEq, Repr

structure SoundUnit where
  tones : Vector ToneOut 4 := Vector.replicate 4 {}
  chime : Chime := {}
  deriving DecidableEq, Repr

/-! ### Attendant call unit -/

/-- Alert kinds (Attendant Alerts, Alert kinds). -/
inductive AlertKind where
  | guardBroken
  | supplyLow
  | supplyTrip
  | axisJam
  | encoderSuspect
  | encoderFailed
  | homingFailed
  | inputStuck
  | stationRested
  | showFault
  | targetClamped
  | limitStop
  | hostCall
  deriving DecidableEq, Repr

/-- The source of an alert: source kind and index. -/
inductive AlertSource where
  | group (g : GroupId)
  | supply
  | axis (ax : AxisId)
  | line (l : LineId)
  | station (st : StationId)
  | host (i : Fin 16)
  deriving DecidableEq, Repr

/-- A zone, or ALL (00_scope, Zones and indices). -/
inductive ZoneSel where
  | zone (z : ZoneId)
  | all
  deriving DecidableEq, Repr

inductive Severity where
  | info
  | attend
  | urgent
  deriving DecidableEq, Repr

/-- An entry of the alert table (R150). -/
structure Alert where
  kind : AlertKind
  source : AlertSource
  zone : ZoneSel
  base : Severity
  severity : Severity
  acked : Bool
  active : Bool
  count : Nat
  first : Time
  last : Time
  deadline : Option Time
  deriving DecidableEq, Repr

/-- The attendant call unit; the beacons are computed from it (R161). -/
structure AlertUnit where
  slots : Vector (Option Alert) 24 := Vector.replicate 24 none
  masks : BitVec 4 := 0
  quiet : Bool := false
  overflow : Bool := false
  chimeRepeatAt : Option Time := none
  deriving DecidableEq, Repr

/-! ### Link unit -/

/-- A message body: TYPE, TAG and payload (R170). -/
structure Frame where
  type : Byte
  tag : Byte
  payload : List Byte
  deriving DecidableEq, Repr

/-- Framer states (R172). `body` holds the bytes of the frame in progress, oldest first. -/
inductive Framer where
  | hunt
  | length
  | body (len : Nat) (bytes : List Byte)
  | check (len : Nat) (bytes : List Byte)
  deriving DecidableEq, Repr

/-- What happens when the last byte of a reply has been sent (R180, R181). -/
inductive ReplyEffect where
  | none
  | setLink (rate : Nat) (gap : Nat)
  | reset
  deriving DecidableEq, Repr

/-- A queued reply; `waits`: how many notices, counted from the oldest of the notice queue, must be sent before it is
ready (R175). -/
structure Reply where
  frame : Frame
  waits : Nat
  effect : ReplyEffect
  deriving DecidableEq, Repr

/-- The frame in transmission, with its bytes on the wire; it stays at the head of its queue until its last byte is sent. -/
inductive Tx where
  | idle
  | reply (bytes : List Byte)
  | notice (bytes : List Byte)
  deriving DecidableEq, Repr

/-- Causes of a reset, as STARTED reports them (R179). -/
inductive ResetCause where
  | pin
  | request
  deriving DecidableEq, Repr

structure LinkUnit where
  rate : Nat := 4
  gap : Nat := 10
  fifo : List (Byte × Bool) := []
  gapAt : Option Time := none
  framer : Framer := .hunt
  heldFrame : Option Frame := none
  replies : List Reply := []
  notices : List Frame := []
  tx : Tx := .idle
  enables : BitVec 7 := 0x39
  noticesLost : Bool := false
  resetting : Bool := false
  startedDue : Option ResetCause := some .pin
  deriving DecidableEq, Repr

/-! ### The whole part -/

/-- Work of the event in hand, empty between commands: axes whose AXIS_STATE notice is due, an admission pass due, a scan
of the gallery sequence due (log 11, log 23). -/
structure Work where
  dirty : AxisSet := 0
  passDue : Bool := false
  scanDue : Bool := false
  deriving DecidableEq, Repr

/-- The state of the part. `store`: the step store's bytes in canonical form; `arb`: the outcomes of
the coming choices among unordered deliveries, as far as they are given, and `drawn`: how many free ones have been drawn since
(log 5); `pending`: the commands that wait, first in, first out. -/
structure State where
  now : Time := 0
  lines : LineUnit := {}
  gallery : Gallery := {}
  stations : Vector Station 12 := Vector.replicate 12 {}
  store : List Host.Cell := []
  admission : Admission := {}
  axes : AxisUnit := {}
  drive : DriveUnit := {}
  safety : Safety := {}
  lamps : LampUnit := {}
  sound : SoundUnit := {}
  alerts : AlertUnit := {}
  link : LinkUnit := {}
  work : Work := {}
  arb : List Nat := []
  drawn : Nat := 0
  pending : List Instr := []
  deriving DecidableEq, Repr

/-- The part right after a reset by the reset pin: every field at the value its rule states (R1, R7, R8, R23, R25, R39,
R44, R54, R58, R62, R80, R82, R105, R115, R117, R121, R132, R139, R146, R149, R150, R169, R171, R172, R175, R177, R179),
the queue of commands empty. -/
def State.reset : State := {}

end Sys2Proof.Machine
end

