-- ==== Sys2Proof/Machine/Codes.lean ====
section
/-! DEFINITION. The codes of the host link (Messages on the Host Link, Codes). -/

namespace Sys2Proof.Machine

open Sys2Proof

/-- Status codes of replies. -/
inductive Status where
  | ok | unknownType | badLength | badValue | wrongMode | wrongState | fixed | notConfigured
  | guardBroken | full | supply | busy
  deriving DecidableEq, Repr

def Status.code : Status → Byte
  | .ok => 0 | .unknownType => 1 | .badLength => 2 | .badValue => 3 | .wrongMode => 4 | .wrongState => 5
  | .fixed => 6 | .notConfigured => 7 | .guardBroken => 8 | .full => 9 | .supply => 10 | .busy => 11

/-- Notice classes (R177); STARTED belongs to none. -/
inductive NoticeClass where
  | alert | station | axis | gallery | supply | guard | line
  deriving DecidableEq, Repr

def NoticeClass.bit : NoticeClass → Nat
  | .alert => 0 | .station => 1 | .axis => 2 | .gallery => 3 | .supply => 4 | .guard => 5 | .line => 6

def ZoneSel.code : ZoneSel → Byte
  | .zone z => byte z.val
  | .all => 4

/-- A zone byte: Z0..Z3 or ALL. -/
def zoneSel? (v : Nat) : Option ZoneSel :=
  if v = 4 then some .all else (toFin? 4 v).map .zone

def Mode.code : Mode → Byte
  | .closed => 0 | .opening => 1 | .openMode => 2 | .closing => 3

def StState.code : StState → Byte
  | .unconfigured => 0 | .standby => 1 | .ready => 2 | .queued => 3 | .running => 4 | .paused => 5
  | .stopping => 6 | .cooldown => 7 | .resting => 8 | .halted => 9 | .outOfService => 10

def StopCause.code : StopCause → Byte
  | .controlled => 0 | .fault => 1 | .safety => 2

/-- SAFETY above FAULT above CONTROLLED. -/
def StopCause.rank : StopCause → Nat
  | .controlled => 0 | .fault => 1 | .safety => 2

def causeCode : Option StopCause → Byte
  | none => 0xFF
  | some c => c.code

def AxState.code : AxState → Byte
  | .unconfigured => 0 | .unhomed => 1 | .homing => 2 | .idle => 3 | .moving => 4 | .stopping => 5 | .faulted => 6

def Owner.code : Owner → Byte
  | .station st => byte st.val
  | .gallery => 12
  | .none => 0xFF

def faultCode : Option FaultKind → Byte
  | some .jam => 0 | some .encoder => 1 | some .homingFailed => 2 | none => 0xFF

def phaseCode : Option HomingPhase → Byte
  | some .away => 0 | some .seek => 1 | some .captured => 2 | none => 0xFF

def stopReqCode : Option StopReq → Byte
  | some .keep => 0 | some .discard => 1 | none => 0xFF

def PlState.code : PlState → Byte
  | .idle => 0 | .playing => 1 | .held => 2 | .aborted => 3

def showFaultCode : Option ShowFault → Byte
  | some .stepInvalid => 0 | some .stepRange => 1 | none => 0xFF

def LineRole.code : LineRole → Byte
  | .unused => 0 | .demand _ => 1 | .guard _ => 2 | .key => 3 | .home _ => 4 | .spare => 5

/-- Line event kinds. -/
inductive LineEvent where
  | press | release | break | restore | stuck | unstuck
  deriving DecidableEq, Repr

def LineEvent.code : LineEvent → Byte
  | .press => 0 | .release => 1 | .break => 2 | .restore => 3 | .stuck => 4 | .unstuck => 5

def GuardState.code : GuardState → Byte
  | .unarmed => 0 | .clear => 1 | .broken => 2

def SupplyState.code : SupplyState → Byte
  | .normal => 0 | .low => 1 | .tripped => 2 | .recovering => 3

def LampState.code : LampState → Byte
  | .off => 0 | .on => 1 | .flash => 2

/-- A lamp state byte (R144). -/
def lampState? (v : Nat) : Option LampState :=
  if v = 0 then some .off else if v = 1 then some .on else if v = 2 then some .flash else none

def AlertKind.code : AlertKind → Byte
  | .guardBroken => 0 | .supplyLow => 1 | .supplyTrip => 2 | .axisJam => 3 | .encoderSuspect => 4
  | .encoderFailed => 5 | .homingFailed => 6 | .inputStuck => 7 | .stationRested => 8 | .showFault => 9
  | .targetClamped => 10 | .limitStop => 11 | .hostCall => 12

def AlertSource.kindCode : AlertSource → Byte
  | .group _ => 0 | .supply => 1 | .axis _ => 2 | .line _ => 3 | .station _ => 4 | .host _ => 5

def AlertSource.index : AlertSource → Byte
  | .group g => byte g.val | .supply => 0 | .axis a => byte a.val | .line l => byte l.val
  | .station st => byte st.val | .host i => byte i.val

def Severity.code : Severity → Byte
  | .info => 0 | .attend => 1 | .urgent => 2

def severity? (v : Nat) : Option Severity :=
  if v = 0 then some .info else if v = 1 then some .attend else if v = 2 then some .urgent else none

/-- Alert change kinds (R167). -/
inductive AlertChange where
  | raised | repeated | reopened | ended | escalated | acknowledged | removed | evicted | lost
  deriving DecidableEq, Repr

def AlertChange.code : AlertChange → Byte
  | .raised => 0 | .repeated => 1 | .reopened => 2 | .ended => 3 | .escalated => 4 | .acknowledged => 5
  | .removed => 6 | .evicted => 7 | .lost => 8

def ResetCause.code : ResetCause → Byte
  | .pin => 0 | .request => 1

def Source.isHost : Source → Bool
  | .host => true
  | .visitor => false

/-- Kinds whose condition lasts (Alert kinds table). -/
def AlertKind.lasting : AlertKind → Bool
  | .guardBroken | .supplyLow | .supplyTrip | .axisJam | .encoderSuspect | .encoderFailed | .homingFailed
  | .inputStuck => true
  | .stationRested | .showFault | .targetClamped | .limitStop | .hostCall => false

/-- Base severities (Alert kinds table); HOST_CALL carries its own. -/
def AlertKind.baseSeverity : AlertKind → Severity
  | .guardBroken | .supplyTrip => .urgent
  | .supplyLow | .axisJam | .encoderFailed | .homingFailed | .inputStuck | .showFault => .attend
  | .encoderSuspect | .stationRested | .targetClamped | .limitStop | .hostCall => .info

end Sys2Proof.Machine
end

