-- ==== Sys2Proof/Machine/Ops.lean ====
section
/-! DEFINITION. The named operations over the state: reading and writing one record, the step store's bytes, timers, the
choices that settle unordered deliveries, and the notice queue. -/

namespace Sys2Proof.Machine

open Sys2Proof

/-! ### One record at a time -/

def State.line (s : State) (i : LineId) : Line := s.lines.lines.get i
def State.station (s : State) (i : StationId) : Station := s.stations.get i
def State.axis (s : State) (i : AxisId) : Axis := s.axes.axes.get i
def State.bridge (s : State) (i : AxisId) : Bridge := s.drive.bridges.get i
def State.group (s : State) (i : GroupId) : GuardGroup := s.safety.groups.get i
def State.lamp (s : State) (i : LampId) : LampState := s.lamps.lamps.get i
def State.tone (s : State) (i : ZoneId) : ToneOut := s.sound.tones.get i
def State.slot (s : State) (i : SlotId) : Option Alert := s.alerts.slots.get i

def State.setLine (i : LineId) (x : Line) (s : State) : State :=
  { s with lines := { s.lines with lines := s.lines.lines.set i.val x } }
def State.setStation (i : StationId) (x : Station) (s : State) : State :=
  { s with stations := s.stations.set i.val x }
/-- Writes an axis without marking an AXIS_STATE notice due. -/
def State.setAxisQuiet (i : AxisId) (x : Axis) (s : State) : State :=
  { s with axes := { s.axes with axes := s.axes.axes.set i.val x } }
def State.setBridge (i : AxisId) (x : Bridge) (s : State) : State :=
  { s with drive := { s.drive with bridges := s.drive.bridges.set i.val x } }
def State.setGroup (i : GroupId) (x : GuardGroup) (s : State) : State :=
  { s with safety := { s.safety with groups := s.safety.groups.set i.val x } }
def State.setSupply (x : Supply) (s : State) : State :=
  { s with safety := { s.safety with supply := x } }
def State.setLamp (i : LampId) (x : LampState) (s : State) : State :=
  { s with lamps := { s.lamps with lamps := s.lamps.lamps.set i.val x } }
def State.setTone (i : ZoneId) (x : ToneOut) (s : State) : State :=
  { s with sound := { s.sound with tones := s.sound.tones.set i.val x } }
def State.setChime (x : Chime) (s : State) : State :=
  { s with sound := { s.sound with chime := x } }
def State.setSlot (i : SlotId) (x : Option Alert) (s : State) : State :=
  { s with alerts := { s.alerts with slots := s.alerts.slots.set i.val x } }
def State.setLink (x : LinkUnit) (s : State) : State := { s with link := x }
def State.setAdmission (x : Admission) (s : State) : State := { s with admission := x }
def State.setGallery (x : Gallery) (s : State) : State := { s with gallery := x }
def State.setWork (x : Work) (s : State) : State := { s with work := x }
def State.setPlayer (i : StationId) (p : Player) (s : State) : State :=
  s.setStation i { s.station i with player := p }

/-- The five fields an AXIS_STATE notice carries are the same (R83). -/
def sameShown (x y : Axis) : Bool :=
  x.state = y.state && x.owner = y.owner && x.homed = y.homed && x.faultKind = y.faultKind && x.braked = y.braked

/-- Writes an axis; a change of a field that AXIS_STATE carries makes that notice due (R83, log 11). -/
def State.setAxis (i : AxisId) (x : Axis) (s : State) : State :=
  if sameShown (s.axis i) x then s.setAxisQuiet i x
  else (s.setAxisQuiet i x).setWork { s.work with dirty := addBit s.work.dirty i.val }

/-- `f` for each member of a list, in order. -/
def forEach {α : Type} (l : List α) (f : α → State → State) (s : State) : State :=
  l.foldl (fun t a => f a t) s

def stationIds : List StationId := List.finRange 12
def axisIds : List AxisId := List.finRange 8
def lineIds : List LineId := List.finRange 40
def groupIds : List GroupId := List.finRange 6
def slotIds : List SlotId := List.finRange 24
def zoneIds : List ZoneId := List.finRange 4
def lampIds : List LampId := List.finRange 24

/-- The axes of a set, in ascending index. -/
def axesOf (set : AxisSet) : List AxisId := axisIds.filter fun a => hasBit set a.val

/-! ### Timers on the time base -/

/-- The time base value `ms` milliseconds from now. -/
def State.after (s : State) (ms : Nat) : Time := s.now + BitVec.ofNat 32 ms

/-- The deadline has been reached: its age is valid, that is, below 2^31 (00_scope, Time). -/
def State.reached (s : State) (d : Time) : Bool := (s.now - d).toNat < 2147483648

/-- A running timer has run out. -/
def State.runOut (s : State) : Option Time → Bool
  | some d => s.reached d
  | none => false

/-- Milliseconds left of a deadline, 0 once it is reached. -/
def State.msLeft (s : State) (d : Time) : Nat := if s.reached d then 0 else (d - s.now).toNat

/-! ### Unordered deliveries -/

/-- The next choice among `k`: taken from `arb`, and a free value when `arb` is exhausted (log 5). -/
def pickArb (k : Nat) (s : State) : Nat × State := match s.arb with
  | [] => (Config.freeChoice s.drawn % k, { s with drawn := s.drawn + 1 })
  | c :: cs => (c % k, { s with arb := cs })

/-- A list in the order that the choices give; the first argument bounds the picks. -/
def arrange {α : Type} : Nat → List α → State → List α × State
  | 0, l, s => (l, s)
  | n + 1, l, s =>
    if l.length ≤ 1 then (l, s)
    else
      let (i, s1) := pickArb l.length s
      match l[i]? with
      | none => (l, s1)
      | some x =>
        let (rest, s2) := arrange n (l.eraseIdx i) s1
        (x :: rest, s2)

/-- `f` for each of several events of one moment, in an order the spec leaves open. -/
def forEachUnordered {α : Type} (l : List α) (f : α → State → State) (s : State) : State :=
  let (l', s1) := arrange l.length l s
  forEach l' f s1

/-- Two deliveries that the spec does not order against each other. -/
def bothOrders (f g : State → State) (s : State) : State :=
  let (i, s1) := pickArb 2 s
  if i = 0 then g (f s1) else f (g s1)

/-! ### The step store (R58) -/

/-- The byte at an address of the store; an unlisted byte is 0, so that unwritten records are END steps (log 27). -/
def Memory.read : List Host.Cell → Nat → Byte
  | [], _ => 0
  | (b, v) :: m, a => if a = b then v else Memory.read m a

/-- The store with one byte written, in canonical form. -/
def Memory.write : List Host.Cell → Nat → Byte → List Host.Cell
  | [], a, v => if v = 0 then [] else [(a, v)]
  | (b, w) :: m, a, v =>
    if a < b then (if v = 0 then (b, w) :: m else (a, v) :: (b, w) :: m)
    else if a = b then (if v = 0 then m else (b, v) :: m)
    else (b, w) :: Memory.write m a v

/-- Addresses strictly rising from `lo` up, within the store, and no listed byte 0. -/
def Memory.wfFrom : Nat → List Host.Cell → Bool
  | _, [] => true
  | lo, (b, v) :: m => lo ≤ b && b < Config.stepCount * Config.stepBytes && v != 0 && Memory.wfFrom (b + 1) m

/-- The canonical form of the store. -/
def Memory.wf (m : List Host.Cell) : Bool := Memory.wfFrom 0 m

/-- Consecutive bytes written from an address on. -/
def Memory.writeAll : List Host.Cell → Nat → List Byte → List Host.Cell
  | m, _, [] => m
  | m, a, v :: vs => Memory.writeAll (Memory.write m a v) (a + 1) vs

/-- The twelve bytes of step record `i`. -/
def State.stepRecord (s : State) (i : Nat) : List Byte :=
  (List.range Config.stepBytes).map fun k => Memory.read s.store (Config.stepBytes * i + k)

/-! ### Notices (R177) -/

/-- Places of the notice queue that a notice can take: while STARTED is due, the first place is kept for it (R179; log 42). -/
def LinkUnit.noticeRoom (u : LinkUnit) : Nat :=
  if u.startedDue.isSome then Config.noticeQueueSize - 1 else Config.noticeQueueSize

/-- Appends a notice, or sets the notices-lost flag when the queue is full. -/
def pushNotice (f : Frame) (s : State) : State :=
  if s.link.notices.length < s.link.noticeRoom then
    s.setLink { s.link with notices := s.link.notices ++ [f] }
  else s.setLink { s.link with noticesLost := true }

/-- A notice of a class: queued only while its class is enabled. A notice carries TAG 0. -/
def sendNotice (c : NoticeClass) (type : Byte) (payload : List Byte) (s : State) : State :=
  if hasBit s.link.enables c.bit then pushNotice ⟨type, 0, payload⟩ s else s

def noticeGalleryMode (s : State) : State := sendNotice .gallery 0x41 [s.gallery.mode.code] s

def noticeStation (i : StationId) (s : State) : State :=
  sendNotice .station 0x42 [byte i.val, (s.station i).state.code, causeCode (s.station i).cause] s

def noticeAxis (i : AxisId) (s : State) : State :=
  let x := s.axis i
  sendNotice .axis 0x43
    [byte i.val, x.state.code, x.owner.code, byte (flagBit x.homed 0), faultCode x.faultKind,
     byte (flagBit x.braked 0)] s

def noticeSupply (old : SupplyState) (s : State) : State :=
  sendNotice .supply 0x44 ([s.safety.supply.state.code, old.code] ++ le16 s.safety.supply.latest) s

def noticeLine (i : LineId) (e : LineEvent) (role : LineRole) (zone : ZoneId) (t : Time) (s : State) : State :=
  match role with
  | .unused => s
  | _ => sendNotice .line 0x46 ([byte i.val, e.code, role.code, byte zone.val] ++ le32 t.toNat) s

def noticeGuard (g : GroupId) (s : State) : State :=
  let x := s.group g
  sendNotice .guard 0x47 [byte g.val, x.state.code, byte x.zone.val, byte (countBits x.brokenLines)] s

/-- The AXIS_STATE notices of the axes of a set, in ascending index, which are then no longer due (R54). -/
def noticeAxes (set : AxisSet) (s : State) : State :=
  forEach (axesOf set) (fun a t => (noticeAxis a t).setWork { t.work with dirty := delBit t.work.dirty a.val }) s

/-- The AXIS_STATE notices that are due (R83). -/
def flushAxes (s : State) : State := noticeAxes s.work.dirty s

end Sys2Proof.Machine
end

