-- ==== Sys2Proof/Machine/Alerts.lean ====
section
/-! DEFINITION. The attendant call unit (Attendant Alerts): raising, merging, evicting, ending, escalating and acknowledging
entries, the beacons, the masks and the chime requests. -/

namespace Sys2Proof.Machine

open Sys2Proof

/-! ### The alert record and the ALERT notice -/

/-- Seventeen bytes of an entry (Messages on the Host Link, Alert record); slot `none` is coded 0xFF. -/
def alertRecord (slot : Option SlotId) (e : Alert) : List Byte :=
  [optByte (slot.map fun i => i.val), e.kind.code, e.source.kindCode, e.source.index, e.zone.code, e.severity.code,
   e.base.code, byte (flagBit e.acked 0 + flagBit e.active 1 + flagBit e.deadline.isSome 2), byte e.count]
    ++ le32 e.first.toNat ++ le32 e.last.toNat

/-- The record of an empty slot. -/
def emptyRecord (slot : SlotId) : List Byte := [byte slot.val, 0xFF] ++ List.replicate 15 0

/-- An ALERT notice (R167). -/
def noticeAlert (change : AlertChange) (slot : Option SlotId) (e : Alert) (s : State) : State :=
  sendNotice .alert 0x45 (change.code :: alertRecord slot e) s

/-! ### The chime (R163, R164) -/

/-- The zone is unmasked; ALL counts as unmasked while at least one zone is. -/
def AlertUnit.zoneUnmasked (u : AlertUnit) : ZoneSel → Bool
  | .zone z => !hasBit u.masks z.val
  | .all => zoneIds.any fun z => !hasBit u.masks z.val

/-- An entry is chime-eligible. -/
def AlertUnit.eligible (u : AlertUnit) (e : Alert) : Bool :=
  !e.acked && e.severity = .urgent && !u.quiet && u.zoneUnmasked e.zone

def AlertUnit.slotEligible (u : AlertUnit) (i : SlotId) : Bool := match u.slots.get i with
  | some e => u.eligible e
  | none => false

/-- The overflow flag counts as a chime-eligible entry while quiet is off. -/
def AlertUnit.overflowEligible (u : AlertUnit) : Bool := u.overflow && !u.quiet

def AlertUnit.anyEligible (u : AlertUnit) : Bool := u.overflowEligible || slotIds.any u.slotEligible

/-- Something is eligible after that was not before (R163, last case). -/
def AlertUnit.newlyEligible (before after : AlertUnit) : Bool :=
  (after.overflowEligible && !before.overflowEligible)
    || slotIds.any fun i => after.slotEligible i && !before.slotEligible i

/-- The chime output takes a play request: a pattern starts from SILENT, and a sounding one runs on (R149). -/
def chimeTake (s : State) : State :=
  if s.sound.chime.state = .silent then
    s.setChime { s.sound.chime with state := .firstNote, endTime := some (s.after Config.chimeNoteMs) }
  else s

/-- A silence request: silent at once (R149). -/
def chimeSilence (s : State) : State :=
  s.setChime { state := .silent, endTime := none, level := false }

/-- A play request with the start of the chime repeat timer (R163). -/
def playChime (s : State) : State :=
  let t := chimeTake s
  { t with alerts := { t.alerts with chimeRepeatAt := some (s.after (s.gallery.cfg.chimeRepeat * 1000)) } }

/-- The repeat timer stops when nothing is eligible any longer (R164). -/
def judgeChime (s : State) : State :=
  if s.alerts.anyEligible then s else { s with alerts := { s.alerts with chimeRepeatAt := none } }

/-! ### Entries -/

/-- The slot whose entry has this kind and source. -/
def AlertUnit.find (u : AlertUnit) (k : AlertKind) (src : AlertSource) : Option SlotId :=
  slotIds.find? fun i => match u.slots.get i with
    | some e => e.kind = k && e.source = src
    | none => false

def AlertUnit.firstEmpty (u : AlertUnit) : Option SlotId := slotIds.find? fun i => (u.slots.get i).isNone

/-- The deadline of an entry of this severity set now (R156). -/
def State.newDeadline (s : State) (sev : Severity) : Option Time :=
  if sev = .attend && s.gallery.cfg.escalation ≠ 0 then some (s.after (s.gallery.cfg.escalation * 1000)) else none

/-- A new entry in an empty slot (R153). -/
def makeEntryAt (i : SlotId) (k : AlertKind) (src : AlertSource) (zone : ZoneSel) (sev : Severity) (s : State) : State :=
  let e : Alert :=
    { kind := k, source := src, zone := zone, base := sev, severity := sev, acked := false, active := k.lasting,
      count := 1, first := s.now, last := s.now, deadline := s.newDeadline sev }
  let t := noticeAlert .raised (some i) e (s.setSlot i (some e))
  if t.alerts.eligible e then playChime t else t

/-- A raise merged into the entry of its kind and source (R152). -/
def mergeEntry (i : SlotId) (e : Alert) (zone : ZoneSel) (sev : Severity) (s : State) : State :=
  let base := if e.kind = .hostCall then sev else e.base
  let e1 := { e with count := min 255 (e.count + 1), last := s.now, zone := zone, base := base, active := e.kind.lasting }
  if e.active then
    let t := noticeAlert .repeated (some i) e1 (s.setSlot i (some e1))
    if t.alerts.eligible e1 && !s.alerts.eligible e then playChime t else judgeChime t
  else
    let e2 := { e1 with severity := base, deadline := s.newDeadline base }
    let t := noticeAlert .reopened (some i) e2 (s.setSlot i (some e2))
    if t.alerts.eligible e2 then playChime t else judgeChime t

/-- Age of an entry (R150). -/
def State.alertAge (s : State) (e : Alert) : Nat := (s.now - e.first).toNat

/-- The slot of the oldest INFO entry, the lower slot among equals (R154). -/
def State.oldestInfo (s : State) : Option SlotId :=
  slotIds.foldl (fun best i => match s.slot i with
    | none => best
    | some e =>
      if e.severity = .info then
        match best with
        | none => some i
        | some b => match s.slot b with
          | none => some i
          | some eb => if s.alertAge eb < s.alertAge e then some i else best
      else best) none

/-- An ATTEND or URGENT alert that cannot be stored: the overflow flag and the LOST notice (R154, R165). -/
def loseAlert (k : AlertKind) (src : AlertSource) (zone : ZoneSel) (sev : Severity) (s : State) : State :=
  let e : Alert :=
    { kind := k, source := src, zone := zone, base := sev, severity := sev, acked := false, active := k.lasting,
      count := 1, first := s.now, last := s.now, deadline := none }
  let t := noticeAlert .lost none e { s with alerts := { s.alerts with overflow := true } }
  if !s.alerts.overflow && !s.alerts.quiet then playChime t else t

/-- A raise that finds the table full (R154). -/
def raiseFull (k : AlertKind) (src : AlertSource) (zone : ZoneSel) (sev : Severity) (s : State) : State :=
  match s.oldestInfo with
  | some i => match s.slot i with
    | some e => makeEntryAt i k src zone sev (noticeAlert .evicted (some i) e (s.setSlot i none))
    | none => makeEntryAt i k src zone sev s
  | none => if sev = .info then s else loseAlert k src zone sev s

/-- A raise of an alert (R151 to R154). -/
def raiseAlert (k : AlertKind) (src : AlertSource) (zone : ZoneSel) (sev : Severity) (s : State) : State :=
  match s.alerts.find k src with
  | some i => match s.slot i with
    | some e => mergeEntry i e zone sev s
    | none => s
  | none => match s.alerts.firstEmpty with
    | some i => makeEntryAt i k src zone sev s
    | none => raiseFull k src zone sev s

/-- A raise of this kind and source and severity is merged or stored, not dropped or lost (R166). -/
def State.wouldStore (s : State) (k : AlertKind) (src : AlertSource) : Bool :=
  (s.alerts.find k src).isSome || s.alerts.firstEmpty.isSome || s.oldestInfo.isSome

/-- The end of a lasting condition (R155). -/
def endAlert (k : AlertKind) (src : AlertSource) (s : State) : State :=
  match s.alerts.find k src with
  | none => s
  | some i => match s.slot i with
    | none => s
    | some e =>
      if e.active then
        let e1 := { e with active := false }
        if e.acked then judgeChime (noticeAlert .removed (some i) e1 (s.setSlot i none))
        else noticeAlert .ended (some i) e1 (s.setSlot i (some e1))
      else s

/-- One entry acknowledged (R158). -/
def ackSlot (i : SlotId) (s : State) : State :=
  match s.slot i with
  | none => s
  | some e =>
    if e.acked then s
    else
      let e1 := { e with acked := true, deadline := none }
      if e.active then judgeChime (noticeAlert .acknowledged (some i) e1 (s.setSlot i (some e1)))
      else judgeChime (noticeAlert .removed (some i) e1 (s.setSlot i none))

/-- The entry's zone is the zone, or ALL (R158). -/
def Alert.inZone (e : Alert) (z : ZoneId) : Bool := e.zone = .zone z || e.zone = .all

/-- The entries of a zone acknowledged, in ascending slot order (R158, R159). -/
def ackZone (z : ZoneId) (s : State) : State :=
  forEach slotIds (fun i t => match t.slot i with
    | some e => if e.inZone z then ackSlot i t else t
    | none => t) s

/-- Every entry acknowledged. -/
def ackAll (s : State) : State := forEach slotIds ackSlot s

/-- An entry whose deadline has been reached escalates (R156). -/
def escalate (i : SlotId) (s : State) : State :=
  match s.slot i with
  | none => s
  | some e =>
    if s.runOut e.deadline then
      let e1 := { e with severity := .urgent, deadline := none }
      let t := noticeAlert .escalated (some i) e1 (s.setSlot i (some e1))
      if t.alerts.eligible e1 then playChime t else t
    else s

/-- The deadlines set afresh at a change of the escalation time (R157). -/
def resetDeadlines (s : State) : State :=
  forEach slotIds (fun i t => match t.slot i with
    | some e => t.setSlot i (some { e with deadline := if e.acked then none else t.newDeadline e.severity })
    | none => t) s

/-! ### Beacons (R161) -/

/-- States of a beacon. -/
inductive Beacon where
  | off | steady | flash
  deriving DecidableEq, Repr

def Beacon.code : Beacon → Nat
  | .off => 0 | .steady => 1 | .flash => 2

/-- Some entry judged for the zone satisfies `p`. -/
def AlertUnit.anyIn (u : AlertUnit) (z : ZoneId) (p : Alert → Bool) : Bool :=
  slotIds.any fun i => match u.slots.get i with
    | some e => e.inZone z && p e
    | none => false

/-- The beacon of a zone, judged from the entries, the masks, quiet and the overflow flag. -/
def AlertUnit.beacon (u : AlertUnit) (z : ZoneId) : Beacon :=
  if u.overflow then .flash
  else if u.quiet || hasBit u.masks z.val then
    if u.anyIn z fun e => !e.acked && (e.kind = .guardBroken || e.kind = .supplyTrip) then .flash else .off
  else if u.anyIn z fun e => !e.acked && e.severity = .urgent then .flash
  else if u.anyIn z fun e => (!e.acked && e.severity = .attend)
      || (e.acked && e.active && (e.severity = .attend || e.severity = .urgent)) then .steady
  else .off

/-- The light of a beacon: FLASH follows the shared flash phase (R161). -/
def State.beaconLit (s : State) (z : ZoneId) : Bool := match s.alerts.beacon z with
  | .off => false
  | .steady => true
  | .flash => s.lamps.lit

/-- The zone of an axis's alerts: the zone of the guard group it names (R151). -/
def State.axisZone (s : State) (a : AxisId) : ZoneSel := .zone (s.group (s.axis a).cfg.group).zone

/-- A raise with an axis as source. -/
def raiseAxis (k : AlertKind) (a : AxisId) (s : State) : State :=
  raiseAlert k (.axis a) (s.axisZone a) k.baseSeverity s

/-- A raise with a station as source and the station's zone. -/
def raiseStation (k : AlertKind) (st : StationId) (s : State) : State :=
  raiseAlert k (.station st) (.zone (s.station st).cfg.zone) k.baseSeverity s

end Sys2Proof.Machine
end

