-- ==== Sys2Proof/Machine/Lamps.lean ====
section
/-! DEFINITION. The lamp and tone unit (Exhibit Lamps and Tones): lamp lines, station indicators, lamp groups, zone tones. -/

namespace Sys2Proof.Machine

open Sys2Proof

/-- The lamp at the pin: FLASH follows the flash phase (R139). -/
def State.lampLit (s : State) (i : LampId) : Bool := match s.lamp i with
  | .off => false
  | .on => true
  | .flash => s.lamps.lit

/-- Every lamp line a station record names (R140). -/
def StationRec.lampLines (r : StationRec) : List LampId := r.ready.toList ++ r.wait.toList ++ r.group

/-- The ready lamp of a station state (R141's table). -/
def readyLamp : StState → LampState
  | .ready => .on
  | .queued => .flash
  | _ => .off

/-- The wait lamp of a station state; `running`: the wait-flash timer runs (R141's table). -/
def waitLamp (running : Bool) : StState → LampState
  | .ready | .running | .paused | .stopping | .cooldown => if running then .flash else .off
  | .resting => .on
  | .halted | .outOfService => .flash
  | .queued | .unconfigured | .standby => .off

/-- Writes an indicator line, if the record names one. -/
def setLampOpt (l : Option LampId) (v : LampState) (s : State) : State := match l with
  | some i => s.setLamp i v
  | none => s

/-- A render event of a station (R141). -/
def renderStation (st : StationId) (s : State) : State :=
  let x := s.station st
  setLampOpt x.cfg.wait (waitLamp x.flashAt.isSome x.state) (setLampOpt x.cfg.ready (readyLamp x.state) s)

/-- Lamp lines turned OFF. -/
def lampsOff (l : List LampId) (s : State) : State := forEach l (fun i t => t.setLamp i .off) s

/-- The lines at the positions of a mask of a lamp group; positions beyond the group are passed over (R68). -/
def groupLines (group : List LampId) (mask : Byte) : List LampId :=
  (List.range 8).filterMap fun k => if hasBit mask k then group[k]? else none

/-- A lamp pattern applied to a station's group: the set mask, then the clear mask (R68, R143). -/
def applyPattern (st : StationId) (setMask clearMask : Byte) (s : State) : State :=
  let g := (s.station st).cfg.group
  lampsOff (groupLines g clearMask) (forEach (groupLines g setMask) (fun i t => t.setLamp i .on) s)

/-- The line is held by a station that is RUNNING, PAUSED or STOPPING (R144). -/
def StState.active : StState → Bool
  | .running | .paused | .stopping => true
  | _ => false

def State.lampBusy (s : State) (i : LampId) : Bool :=
  stationIds.any fun st => (s.station st).state.active && (s.station st).cfg.lampLines.contains i

/-! ### Zone tone outputs (R146 to R148) -/

/-- Amplitude times zone volume, divided by 15 and floored (R147). -/
def effectiveAmplitude (amplitude volume : Nat) : Nat := amplitude * volume / 15

/-- The zone volume in force. -/
def State.volume (s : State) (z : ZoneId) : Nat := s.gallery.cfg.volumes.get z

/-- A tone reaches a zone's output and replaces whatever played there (R146, R147); the wave's level stands as it was until
its next change, and at rest for an effective amplitude of 0 (log 15). -/
def playTone (z : ZoneId) (pitch amplitude duration : Nat) (s : State) : State :=
  let eff := effectiveAmplitude amplitude (s.volume z)
  s.setTone z
    { playing := true, pitch := pitch, amplitude := amplitude, effective := eff, endTime := s.after duration,
      level := (s.tone z).level && eff ≠ 0 }

/-- The level of a zone tone output: its effective amplitude or, at rest, 0, of 15 steps (R146). -/
def ToneOut.output (x : ToneOut) : Nat := if x.level then x.effective else 0

/-- The pitch of the chime in Hz, none in SILENT (R149). -/
def ChimeState.pitch : ChimeState → Option Nat
  | .silent => none
  | .firstNote => some Config.chimeFirstHz
  | .secondNote => some Config.chimeSecondHz

/-- The amplitude of the chime, of 15 steps: both notes at full amplitude, whatever the zone volumes (R149). -/
def ChimeState.amplitude : ChimeState → Nat
  | .silent => 0
  | .firstNote | .secondNote => Config.chimeAmplitude

/-- The level of the chime output, of 15 steps: its amplitude or, at rest, 0 (R149). -/
def Chime.output (x : Chime) : Nat := if x.level then x.state.amplitude else 0

/-- The effective amplitudes of the PLAYING outputs computed anew (R147). -/
def recomputeVolumes (s : State) : State :=
  forEach zoneIds (fun z t =>
    let x := t.tone z
    if x.playing then
      let eff := effectiveAmplitude x.amplitude (t.volume z)
      t.setTone z { x with effective := eff, level := x.level && eff ≠ 0 }
    else t) s

end Sys2Proof.Machine
end

