-- ==== Sys2Proof/Machine/Drive.lean ====
section
/-! DEFINITION. The drive unit (Drive Outputs and Encoders): bridge output states, PWM legs, quadrature counting and the
encoder error count. -/

namespace Sys2Proof.Machine

open Sys2Proof

/-- The axis may be driven (R106). -/
def Axis.mayDrive (x : Axis) : Bool :=
  x.state ≠ .unconfigured && x.owner ≠ .none && x.state ≠ .faulted && !x.braked

/-- A leg whose high side turns off at once and whose low side turns on one dead time later, unless it is on (R107). -/
def Leg.toLow : Leg → Leg
  | .low => .low
  | .deadLow => .deadLow
  | .off | .high | .deadHigh => .deadLow

/-- DRIVE left for BRAKE at once, both duties 0 (R107). -/
def Bridge.brakeNow (b : Bridge) : Bridge :=
  { b with out := .brake, first := b.first.toLow, second := b.second.toLow, buffered := 0, loaded := 0 }

/-- The bridge judged anew at an event that changes whether its axis is configured or may be driven: changes to FLOAT and to
BRAKE act at once, a change to DRIVE waits for the next period start (R106 to R109). A change to DRIVE that lapses leaves both
duties 0, as R107 leaves them, so that the buffer holds 0 at the next grant (R108; log 47). -/
def Bridge.judge (x : Axis) (b : Bridge) : Bridge :=
  if x.state = .unconfigured then { b with out := .float, first := .off, second := .off, buffered := 0, loaded := 0 }
  else match b.out with
    | .float => { b with out := .brake, first := .low, second := .low }
    | .brake => if x.mayDrive then b else { b with buffered := 0, loaded := 0 }
    | .drive => if x.mayDrive then b else b.brakeNow

def judgeBridge (a : AxisId) (s : State) : State := s.setBridge a ((s.bridge a).judge (s.axis a))

/-! ### Pulse-width modulation (R110 to R112) -/

/-- The on-time of a duty is greater than one dead time: |duty| / kHz microseconds against quarter-microseconds (R111). -/
def pulses (duty : Int) (kHz dead : Nat) : Bool := dead * kHz < 4 * duty.natAbs

/-- The pulsed leg at a period start; `full`: a full pulse of the same leg goes on (R110). A high side still on from a full
pulse that does not go on turns off there, one dead time before the new pulse (log 14), and a leg still in the dead time toward
its low side drops the low side and waits one dead time before its high side (log 40). -/
def Leg.startPulse (pulse full : Bool) (l : Leg) : Leg :=
  if pulse then
    if full && l = .high then .high else .deadHigh
  else l.toLow

/-- A bridge in DRIVE at a period start: the buffered duty is loaded and its pulse begins (R110 to R112). -/
def Bridge.startPeriod (kHz dead : Nat) (b : Bridge) : Bridge :=
  let d := b.buffered
  let pulse := pulses d kHz dead
  let full := d.natAbs = 1000 && b.loaded = d
  if d < 0 then
    { b with loaded := d, first := b.first.toLow, second := b.second.startPulse pulse full }
  else
    { b with loaded := d, first := b.first.startPulse (pulse && d ≠ 0) full, second := b.second.toLow }

/-- A period start of one bridge: a bridge in BRAKE whose axis may be driven enters DRIVE there (R108). -/
def Bridge.periodStart (x : Axis) (kHz dead : Nat) (b : Bridge) : Bridge :=
  match b.out with
  | .float => b
  | .brake => if x.mayDrive then { b with out := .drive }.startPeriod kHz dead else b
  | .drive => b.startPeriod kHz dead

/-- The high side of the pulsed leg turns off at the end of the on-time; at full duty the on-time ends with the period, and
the next period start judges it (R110). -/
def Bridge.onTimeEnd (b : Bridge) : Bridge :=
  if b.out = .drive && b.loaded.natAbs < 1000 then
    if b.loaded < 0 then { b with second := match b.second with | .high | .deadHigh => .deadLow | l => l }
    else { b with first := match b.first with | .high | .deadHigh => .deadLow | l => l }
  else b

/-- The switch that waited for the dead time turns on (R111). -/
def Leg.deadEnd : Leg → Leg
  | .deadLow => .low
  | .deadHigh => .high
  | l => l

def Bridge.deadEnd (leg : LegId) (b : Bridge) : Bridge := match leg with
  | .first => { b with first := b.first.deadEnd }
  | .second => { b with second := b.second.deadEnd }

/-! ### Counting the encoder (R114 to R119) -/

/-- The count of a transition from the held to the new phase pair: `some` for a legal one, `none` for an illegal one, with
the encoder invert flag clear (R114's table). -/
def quadrature (held new : Bool × Bool) : Option Int :=
  match held, new with
  | (false, false), (true, false) => some 1
  | (false, false), (false, true) => some (-1)
  | (true, false), (true, true) => some 1
  | (true, false), (false, false) => some (-1)
  | (true, true), (false, true) => some 1
  | (true, true), (true, false) => some (-1)
  | (false, true), (false, false) => some 1
  | (false, true), (true, true) => some (-1)
  | _, _ => none

/-- The raw count with a legal transition added, saturated at its ends (R115). -/
def addRaw (raw d : Int) : Int := clampInt Config.rawMin Config.rawMax (raw + d)

/-- The encoder error count set to 0; the end of a present ENCODER_SUSPECT condition is delivered (R117, R118). -/
def clearEncoderErrors (a : AxisId) (s : State) : State :=
  let b := s.bridge a
  let t := s.setBridge a { b with err := 0 }
  if Config.encoderSuspect ≤ b.err then endAlert .encoderSuspect (.axis a) t else t

end Sys2Proof.Machine
end

