-- ==== Sys2Proof/Machine/Profile.lean ====
section
/-! DEFINITION. The profile arithmetic of one axis (Axis Motion Profiles, R85 to R95): targets, effective vmax, the normal, the
reversal and the controlled-stop rule, duty and following error. It reads and writes one axis record. -/

namespace Sys2Proof.Machine

open Sys2Proof

/-- Whole counts of the commanded position, floored (R82). -/
def Axis.cmdCounts (x : Axis) : Int := x.cmd / 256

/-- Clamped into the soft limits (counts). -/
def AxisRec.clampSoft (r : AxisRec) (v : Int) : Int := clampInt r.softMin r.softMax v

/-- The axis is configured (R81). -/
def Axis.configured (x : Axis) : Bool := x.state ≠ .unconfigured

/-- Healthy: configured, homed and not FAULTED (R83). -/
def Axis.healthy (x : Axis) : Bool := x.configured && x.homed && x.state ≠ .faulted

/-- At rest: velocity 0 and no target (R83). -/
def Axis.atRest (x : Axis) : Bool := x.vel = 0 && x.target.isNone

/-- The state of an axis that has come to rest without a fault: IDLE if homed, UNHOMED if not. -/
def Axis.restState (x : Axis) : AxState := if x.homed then .idle else .unhomed

/-- The commanded position taken from the encoder, clamped into the soft limits if homed (R82, R92); `enc` in counts. -/
def Axis.cmdFromEncoder (x : Axis) (enc : Int) : Int := (if x.homed then x.cfg.clampSoft enc else enc) * 256

/-- What an e-stop does to the motion: velocity 0, position from the encoder, targets and stop requests discarded (R92). -/
def Axis.eStop (x : Axis) (enc : Int) : Axis :=
  { x with vel := 0, cmd := x.cmdFromEncoder enc, target := none, stopReq := none }

/-! ### Targets (R85) -/

/-- Direction NEGATIVE for a target from a commanded position; an equal one keeps the direction. -/
def towards (cmd target : Int) (neg : Bool) : Bool :=
  if target * 256 < cmd then true else if cmd < target * 256 then false else neg

/-- A target given to an axis that is neither FAULTED nor braked: at rest at once if it stands there at velocity 0, else
moving toward it (R85). -/
def Axis.setTarget (x : Axis) (t : Int) : Axis :=
  let req := if x.stopReq = some .keep then none else x.stopReq
  if x.vel = 0 && x.cmd = t * 256 then
    { x with target := none, stopReq := none,
             state := if x.state = .moving || x.state = .stopping then x.restState else x.state }
  else
    { x with
      target := some t
      stopReq := req
      negative := if x.vel = 0 then towards x.cmd t x.negative else x.negative
      state := if x.state = .idle || x.state = .unhomed || (x.state = .stopping && x.stopReq = some .keep) then .moving
               else x.state }

/-! ### Effective vmax (R86) -/

/-- Effective vmax under a derate in percent: the homing speed is the base while homing and for an unhomed axis, and the
override counts only for a station's move. -/
def Axis.effVmax (x : Axis) (derate : Nat) : Nat :=
  let base := if x.state = .homing || !x.homed then x.cfg.homingSpeed else x.cfg.vmax
  let ov := match x.owner with
    | .station _ => x.override
    | _ => 100
  max x.cfg.acc (base * ov / 100 * derate / 100)

/-! ### One step of the profile (R87 to R91) -/

/-- The stopping distance of a velocity (R87). -/
def stopDist (a v : Nat) : Nat := v * (v + a) / (2 * a)

/-- The new velocity of the normal rule for velocity `v`, acceleration `a`, effective vmax `V`, distance `D` (R88). -/
def normalVel (a V D v : Nat) : Nat :=
  if V < v then
    let w := max (v - a) V
    if D < stopDist a w then max (v - a) a else w
  else
    let c1 := min (v + a) V
    if stopDist a c1 ≤ D then c1
    else if stopDist a v ≤ D && 0 < v then v
    else max (v - a) a

/-- A signed step of a magnitude. -/
def signedStep (neg : Bool) (n : Nat) : Int := if neg then -(n : Int) else n

/-- What one profile step of an axis brought about. -/
structure StepOut where
  axis : Axis
  /-- the new velocity v′ of the rule taken, with the sign of the direction, for the duty (R94; log 13) -/
  v : Int
  arrived : Bool
  stopped : Bool
  limit : Bool
  deriving DecidableEq, Repr

/-- The step under the normal rule (R88): the target lies ahead. -/
def Axis.normalStep (x : Axis) (t : Int) (derate : Nat) : StepOut :=
  let D := (x.cmd - t * 256).natAbs
  let v := normalVel x.cfg.acc (x.effVmax derate) D x.vel
  let step := min v D
  let neg := towards x.cmd t x.negative
  if D ≤ step then
    ⟨{ x with cmd := t * 256, vel := 0, target := none, negative := neg }, signedStep neg v, true, false, false⟩
  else
    ⟨{ x with cmd := x.cmd + signedStep neg step, vel := v, negative := neg }, signedStep neg v, false, false, false⟩

/-- A step in the direction of motion that lands on a soft limit instead of passing it, for a homed axis (R91): the new
commanded position and whether the limit stopped it. -/
def Axis.limitedStep (x : Axis) (v : Nat) : Int × Bool :=
  let p := x.cmd + signedStep x.negative v
  if x.homed then
    if x.negative then (if p < x.cfg.softMin * 256 then (x.cfg.softMin * 256, true) else (p, false))
    else (if x.cfg.softMax * 256 < p then (x.cfg.softMax * 256, true) else (p, false))
  else (p, false)

/-- The step under the reversal rule (R89): the target lies behind. -/
def Axis.reversalStep (x : Axis) : StepOut :=
  let v := x.vel - x.cfg.acc
  let (p, lim) := x.limitedStep v
  let vel := if lim then 0 else v
  ⟨{ x with cmd := p, vel := vel, negative := if vel = 0 then !x.negative else x.negative },
    signedStep x.negative v, false, false, lim⟩

/-- The step under the controlled-stop rule (R90). -/
def Axis.stopStep (x : Axis) : StepOut :=
  let v := x.vel - x.cfg.acc
  let (p, lim) := x.limitedStep v
  let vel := if lim then 0 else v
  ⟨{ x with cmd := p, vel := vel }, signedStep x.negative v, false, decide (vel = 0), lim⟩

/-- The target lies behind the motion (R87). -/
def Axis.behind (x : Axis) (t : Int) : Bool :=
  x.vel ≠ 0 && (if x.negative then x.cmd ≤ t * 256 else t * 256 ≤ x.cmd)

/-- One step of the profile of an axis that is MOVING, HOMING or STOPPING and not braked (R87). -/
def Axis.profileStep (x : Axis) (derate : Nat) : StepOut :=
  match x.stopReq with
  | some _ => x.stopStep
  | none => match x.target with
    | some t => if x.behind t then x.reversalStep else x.normalStep t derate
    | none => ⟨x, 0, false, false, false⟩

/-- The axis takes a profile step at a profile interval (R87). -/
def Axis.steps (x : Axis) : Bool :=
  (x.state = .moving || x.state = .homing || x.state = .stopping) && !x.braked

/-! ### Duty and following error (R94, R95) -/

/-- Following error of a commanded position in whole counts and an encoder position, saturated (R94). -/
def followingError (cmd enc : Int) : Int := clampInt (-Config.followingMax) Config.followingMax (cmd - enc)

/-- The duty: proportional and feed-forward terms truncated toward zero, their sum clamped (R94). `v` carries the sign of
the direction. -/
def dutyOf (r : AxisRec) (e v : Int) : Int :=
  clampInt (-(r.dutymax : Int)) r.dutymax (Int.tdiv (r.kp * e) 16 + Int.tdiv (r.kf * v) 1024)

/-- The axis has a duty and a following-error check: owned, not FAULTED, not braked by safety (R94, R95). -/
def Axis.servoed (x : Axis) : Bool := x.owner ≠ .none && x.state ≠ .faulted && !x.braked

/-- The following-error timer after a profile interval (R95). -/
def feTick (limit : Nat) (e : Int) (timer : Option Nat) : Option Nat :=
  if limit < e.natAbs then some (match timer with
    | none => 1
    | some n => n + 1)
  else none

/-- The following-error time has been reached and the axis is due to jam (R95). -/
def Axis.jamDue (x : Axis) : Bool := x.configured && x.servoed && (match x.feTimer with
  | some n => x.cfg.feTime ≤ n
  | none => false)

/-! ### Ends of motion (R88, R90, R99, R100) -/

/-- The judgement at the rest of a CAPTURED homing: homed and IDLE if the commanded position in whole counts lies within
the soft limits (R100). -/
def Axis.captureGood (x : Axis) : Bool := x.cfg.softMin ≤ x.cmdCounts && x.cmdCounts ≤ x.cfg.softMax

/-- A homing that fails: FAULTED with HOMING_FAILED, homed clear (R100). -/
def Axis.homingFail (x : Axis) : Axis :=
  { x with state := .faulted, faultKind := some .homingFailed, homed := false, phase := none, homingLost := false,
           vel := 0, target := none, stopReq := none, feTimer := none }

/-- A homing that ends with the axis homed (R100). -/
def Axis.homingGood (x : Axis) : Axis :=
  { x with state := .idle, homed := true, phase := none, homingLost := false, vel := 0, target := none, stopReq := none }

/-- A homing that ends without failure and without being homed (R92, R100). -/
def Axis.homingNone (x : Axis) : Axis :=
  { x with state := .unhomed, phase := none, homingLost := false, vel := 0, target := none, stopReq := none }

/-- The end of a homing whose axis has come to rest in a controlled stop with DISCARD (R100). -/
def Axis.homingStopEnd (x : Axis) : Axis :=
  if x.homingLost then x.homingFail
  else if x.phase = some .captured then (if x.captureGood then x.homingGood else x.homingFail)
  else x.homingNone

/-- The axis after its profile step, with the ends of motion settled: an arrival ends a move, or fails a homing that has
not met its edge; a DISCARD stop ends at rest, a KEEP stop leaves the axis IDLE with its target (R88, R90, R100). -/
def Axis.settleStep (o : StepOut) : Axis :=
  let x := o.axis
  if o.arrived then
    if x.state = .homing then x.homingFail else { x with state := x.restState }
  else if o.stopped then
    match x.stopReq with
    | some .keep => { x with stopReq := none, state := x.restState }
    | _ =>
      if x.state = .homing then { x with target := none, stopReq := none }.homingStopEnd
      else { x with target := none, stopReq := none, state := x.restState }
  else x

end Sys2Proof.Machine
end

