-- ==== Sys2Proof/Machine/Stations.lean ====
section
/-! DEFINITION. The station manager (The Gallery and Its Stations): state changes with their notices and renders, rests,
halts, aborts and the end of STOPPING, with the release of axes (R53) and controlled stops (R90) they ask for. -/

namespace Sys2Proof.Machine

open Sys2Proof

/-! ### Readings -/

/-- Encoder position in counts: raw count plus offset (R82). -/
def State.encPos (s : State) (a : AxisId) : Int := (s.bridge a).raw + (s.axis a).offset

/-- The line whose role is HOME and whose target is the axis (R81). -/
def State.homeLine (s : State) (a : AxisId) : Option LineId := lineIds.find? fun i => (s.line i).cfg.role = .home a

/-- Free budget: capacity minus claimed total (R44). -/
def State.freeBudget (s : State) : Nat := s.gallery.cfg.capacity - s.admission.claimed

/-- The axes a station owns. -/
def State.owned (s : State) (st : StationId) : List AxisId := axisIds.filter fun a => (s.axis a).owner = .station st

def State.ownedAtRest (s : State) (st : StationId) : Bool := (s.owned st).all fun a => (s.axis a).atRest

/-- The axes of a station's set. -/
def State.setAxes (s : State) (st : StationId) : List AxisId := axesOf (s.station st).cfg.axes

def State.allHealthy (s : State) (st : StationId) : Bool := (s.setAxes st).all fun a => (s.axis a).healthy

/-- A guard group touches a station's set (R16). -/
def State.touches (s : State) (g : GroupId) (st : StationId) : Bool :=
  (s.setAxes st).any fun a => (s.axis a).cfg.group = g

/-- Every guard group touching the station's set is CLEAR. -/
def State.groupsClear (s : State) (st : StationId) : Bool :=
  (s.setAxes st).all fun a => (s.group (s.axis a).cfg.group).state = .clear

/-- The supply monitor is TRIPPED or RECOVERING. -/
def State.supplyDown (s : State) : Bool :=
  s.safety.supply.state = .tripped || s.safety.supply.state = .recovering

/-- A usable window: size code 3..8 (R60). -/
def StationRec.usable (r : StationRec) : Bool := 3 ≤ r.sizeCode && r.sizeCode ≤ 8

def StationRec.windowSize (r : StationRec) : Nat := 2 ^ r.sizeCode

/-! ### State changes -/

/-- The wait-flash timer is stopped on entry (R9). -/
def StState.stopsFlash : StState → Bool
  | .queued | .resting | .halted | .outOfService | .standby => true
  | _ => false

/-- A station takes a state and a stop cause: a change of either sends STATION_STATE, and the indicators are rendered (R8,
R141). -/
def changeState (st : StationId) (new : StState) (cause : Option StopCause) (s : State) : State :=
  let x := s.station st
  let y := { x with state := new, cause := cause, flashAt := if new.stopsFlash then none else x.flashAt }
  let t := s.setStation st y
  renderStation st (if x.state = new && x.cause = cause then t else noticeStation st t)

/-- The station's entry leaves the demand queue (R42). -/
def removeEntry (st : StationId) (s : State) : State :=
  s.setAdmission { s.admission with queue := s.admission.queue.filter fun e => e.station ≠ st }

/-- The cooldown and rest timers stop and rest-owed is cleared (R19, R20). -/
def clearWaits (st : StationId) (s : State) : State :=
  s.setStation st { s.station st with cooldownAt := none, restAt := none, restOwed := false }

def enterHalted (st : StationId) (s : State) : State := changeState st .halted none (clearWaits st s)

def enterOutOfService (st : StationId) (s : State) : State := changeState st .outOfService none (clearWaits st s)

/-- A rest starts (R15): STATION_STATE goes before the raise of STATION_RESTED, which R15 leaves open: DESIGN CHOICE (log 50). -/
def startRest (st : StationId) (s : State) : State :=
  let x := s.station st
  let t := s.setStation st
    { x with restOwed := false, cooldownAt := none, restAt := some (s.after (x.cfg.rest * 1000)) }
  raiseStation .stationRested st (changeState st .resting none t)

/-- The station would enter READY: it rests first if a rest is owed (R14, R15; log 12). -/
def enterReady (st : StationId) (s : State) : State :=
  if (s.station st).restOwed then startRest st s
  else changeState st .ready none
    (s.setStation st { s.station st with cooldownAt := none, restAt := none })

/-- A show has ended: COOLDOWN, left at once when the cooldown time is 0 (R14). -/
def enterCooldown (st : StationId) (s : State) : State :=
  let t := changeState st .cooldown none s
  let x := t.station st
  if x.cfg.cooldown = 0 then enterReady st t
  else t.setStation st { x with cooldownAt := some (t.after x.cfg.cooldown) }

/-! ### Release of axes (R53) and controlled stops (R90) -/

/-- An axis loses its owner: its draw is subtracted, its following-error timer stops and its bridge is braked (R53, R56). -/
def releaseAxis (a : AxisId) (s : State) : State :=
  let x := s.axis a
  let t := s.setAxis a { x with owner := .none, feTimer := none }
  judgeBridge a (t.setAdmission { t.admission with claimed := t.admission.claimed - x.cfg.ratedDraw })

def markPass (s : State) : State := s.setWork { s.work with passDue := true }
def markScan (s : State) : State := s.setWork { s.work with scanDue := true }

/-- The release of a station's axes: owners none, lamp group OFF, armed trigger dropped, an admission pass due (R53). -/
def releaseStation (st : StationId) (s : State) : State :=
  let t := forEach (s.owned st) releaseAxis s
  let t := lampsOff (t.station st).cfg.group t
  markPass (t.setPlayer st { (t.station st).player with trigger := none })

/-- A controlled stop asked of an axis (R90). A HOMING axis stays HOMING, at velocity 0 too: its homing ends at the next
profile interval (log 36). -/
def Axis.requestStop (r : StopReq) (x : Axis) : Axis :=
  match x.state with
  | .moving => { x with state := .stopping, stopReq := some r }
  | .homing => { x with stopReq := some r }
  | .stopping => { x with stopReq := if r = .discard then some .discard else x.stopReq }
  | .idle | .unhomed => if r = .discard then { x with target := none } else x
  | .unconfigured | .faulted => x

def stopAxis (r : StopReq) (a : AxisId) (s : State) : State := s.setAxis a ((s.axis a).requestStop r)

/-! ### Aborts (R16 to R18) -/

/-- The player aborts: it ends its wait and disarms its trigger (R78). -/
def Player.abort (p : Player) : Player :=
  { p with state := .aborted, wait := .none, waitAxes := 0, reported := 0, deadline := none, remaining := 0,
           trigger := none }

/-- STOPPING is left for the destination of the stop cause (R18). The ALERT notice of a rest that starts at once goes before the
AXIS_STATE notices of the release: DESIGN CHOICE (log 50). -/
def endStopping (st : StationId) (s : State) : State :=
  let x := s.station st
  let set := s.owned st
  let t := releaseStation st s
  let t := t.setPlayer st { (t.station st).player with state := .idle }
  let t := match x.cause with
    | some .safety => enterHalted st t
    | some .fault =>
      let u := enterOutOfService st t
      if u.allHealthy st then enterReady st u else u
    | _ => enterCooldown st t
  noticeAxes (set.foldl (fun v a => addBit v a.val) 0) t

/-- A STOPPING station whose owned axes are all at rest leaves STOPPING (R18). -/
def tryEndStopping (st : StationId) (s : State) : State :=
  if (s.station st).state = .stopping && s.ownedAtRest st then endStopping st s else s

/-- An abort reaches a station (R16, R17). `braking`: axes that this event brakes, which make no controlled stop (R90). -/
def abortStation (st : StationId) (cause : StopCause) (braking : AxisSet) (s : State) : State :=
  let x := s.station st
  match x.state with
  | .running | .paused =>
    let t := changeState st .stopping (some cause) s
    let t := t.setPlayer st (t.station st).player.abort
    let t := forEach ((t.owned st).filter fun a => !hasBit braking a.val) (stopAxis .discard) t
    tryEndStopping st t
  | .stopping => match x.cause with
    | some held => if held.rank < cause.rank then changeState st .stopping (some cause) s else s
    | none => changeState st .stopping (some cause) s
  | _ => s

/-- A break of a group touching the set, or a supply trip, reaches a station (R16, R17, R19). -/
def haltStation (braking : AxisSet) (st : StationId) (s : State) : State :=
  match (s.station st).state with
  | .running | .paused | .stopping => abortStation st .safety braking s
  | .ready | .queued | .cooldown | .resting | .outOfService => enterHalted st (removeEntry st s)
  | .unconfigured | .standby | .halted => s

/-- An axis has become unhealthy (R20); stations that own it are told by the axis's owner report. -/
def tellUnhealthy (a : AxisId) (s : State) : State :=
  forEach stationIds (fun st t =>
    if hasBit (t.station st).cfg.axes a.val then
      match (t.station st).state with
      | .ready | .queued | .cooldown | .resting => enterOutOfService st (removeEntry st t)
      | _ => t
    else t) s

/-- An axis has become healthy: OUT_OF_SERVICE stations whose axes are then all healthy return to READY (R20). -/
def tellHealthy (a : AxisId) (s : State) : State :=
  forEach stationIds (fun st t =>
    if hasBit (t.station st).cfg.axes a.val && (t.station st).state = .outOfService && t.allHealthy st then
      enterReady st t
    else t) s

/-- A change of an axis's health is reported to the station manager (R83). -/
def reportHealth (a : AxisId) (was : Bool) (s : State) : State :=
  let is := (s.axis a).healthy
  if was = is then s else if is then tellHealthy a s else tellUnhealthy a s

/-- A re-arm event for a zone or for all zones (R21). -/
def rearmEvent (z : ZoneSel) (s : State) : State :=
  forEach stationIds (fun st t =>
    let x := t.station st
    if x.state = .halted && (z = .all || z = .zone x.cfg.zone) && t.groupsClear st && !t.supplyDown then
      if t.allHealthy st then enterReady st t else enterOutOfService st t
    else t) s

/-! ### The tally (R10, R11) -/

/-- A press raises the tally by one, to at most 31; from 0 it starts the leak timer (R11). -/
def raiseTally (st : StationId) (s : State) : State :=
  let x := s.station st
  s.setStation st
    { x with tally := min 31 (x.tally + 1), leakAt := if x.tally = 0 then some (s.after x.cfg.leak) else x.leakAt }

/-- The tally has reached the trip level (R10). -/
def Station.trips (x : Station) : Bool := x.cfg.tripLevel ≠ 0 && x.cfg.tripLevel ≤ x.tally

/-- The tally returns to 0 and its leak timer stops. -/
def clearTally (st : StationId) (s : State) : State :=
  s.setStation st { s.station st with tally := 0, leakAt := none }

/-- A press in a state other than READY: the tally counts, and a trip sets rest-owed (R9, R10). -/
def countPress (st : StationId) (s : State) : State :=
  let t := raiseTally st s
  if (t.station st).trips then
    let u := clearTally st t
    u.setStation st { u.station st with restOwed := true }
  else t

/-- The wait-flash timer starts or restarts, a render event (R9, R142). -/
def startFlash (st : StationId) (s : State) : State :=
  renderStation st (s.setStation st { s.station st with flashAt := some (s.after Config.waitFlashMs) })

end Sys2Proof.Machine
end

