-- ==== Sys2Proof/Machine/Player.lean ====
section
/-! DEFINITION. The show player (Show Lists and the Show Player): taking steps, waits, lamp triggers, loops, show faults, and
the targets a show gives its axes. -/

namespace Sys2Proof.Machine

open Sys2Proof

/-! ### Targets (R85) -/

/-- The axis refuses every target: FAULTED, or braked by safety (R85). -/
def Axis.refusesTarget (x : Axis) : Bool := x.state = .faulted || x.braked

def giveTarget (a : AxisId) (t : Int) (s : State) : State := s.setAxis a ((s.axis a).setTarget t)

/-- A target from a MOVE step or from AXIS_MOVE: beyond a soft limit of a homed axis it is clamped, and TARGET_CLAMPED is
raised (R85). -/
def giveClampedTarget (a : AxisId) (t : Int) (s : State) : State :=
  let x := s.axis a
  if x.homed && x.cfg.clampSoft t ≠ t then raiseAxis .targetClamped a (giveTarget a (x.cfg.clampSoft t) s)
  else giveTarget a t s

/-! ### Show faults and the end of a show -/

/-- A show faults: the cause is kept, the alert raised and the show aborted, the two in no stated order (R74). -/
def showFault (st : StationId) (f : ShowFault) (s : State) : State :=
  let t := s.setPlayer st { (s.station st).player with lastFault := some f }
  bothOrders (raiseStation .showFault st) (abortStation st .controlled 0) t

/-- The END step completes: release, COOLDOWN, player IDLE (R73, R14). Where the station leaves COOLDOWN at once for a rest it owes,
the ALERT notice of STATION_RESTED goes before the AXIS_STATE notices of the release: R54, R83, R15 and R151 leave the order of the
two open: DESIGN CHOICE (log 50). -/
def endShow (st : StationId) (s : State) : State :=
  let set := s.owned st
  let t := s.setPlayer st
    { (s.station st).player with state := .idle, wait := .none, waitAxes := 0, reported := 0, deadline := none }
  let t := enterCooldown st (releaseStation st t)
  noticeAxes (set.foldl (fun v a => addBit v a.val) 0) t

/-! ### Waits -/

/-- The members of a set of axes that are at rest. -/
def State.restingOf (s : State) (set : AxisSet) : AxisSet :=
  (axesOf set).foldl (fun v a => if (s.axis a).atRest then addBit v a.val else v) 0

/-- Every member of the first set is in the second. -/
def covered (set of : AxisSet) : Bool := set &&& ~~~of = 0

/-- A wait for axes begins; an axis at rest counts as reported (R67). `none`: the player waits. -/
def waitForAxes (st : StationId) (set : AxisSet) (next : Nat) (s : State) : State × Option Nat :=
  let r := s.restingOf set
  if covered set r then (s, some next)
  else (s.setPlayer st { (s.station st).player with wait := .axes, waitAxes := set, reported := r }, none)

/-! ### Steps -/

/-- The speed override of a MOVE, clamped (R64). -/
def clampOverride (v : Nat) : Nat := min 100 (max 10 v)

/-- A byte naming an axis of the station's set. -/
def StationRec.axisIn (r : StationRec) (v : Nat) : Option AxisId := match toFin? 8 v with
  | some a => if hasBit r.axes a.val then some a else none
  | none => none

/-- The target of a MOVE for one axis (R65). -/
def moveTarget (x : Axis) (relative : Bool) (v : Int) : Int :=
  if relative then (match x.target with
    | some t => t
    | none => x.cmdCounts) + v
  else v

/-- The override of a MOVE set on an axis it names (R65). -/
def setOverride (a : AxisId) (ov : Nat) (s : State) : State := s.setAxis a { s.axis a with override := ov }

/-- A MOVE step of one or two named axes, with the targets it carries (R64, R65); the first named axis is taken first, its
TARGET_CLAMPED alert included (log 35). -/
def takeMove (st : StationId) (moves : List (AxisId × Int)) (ov : Nat) (relative wait : Bool) (next : Nat)
    (s : State) : State × Option Nat :=
  if moves.any fun m => (s.axis m.1).refusesTarget then (showFault st .stepInvalid s, none)
  else
    let targets := moves.map fun m => (m.1, moveTarget (s.axis m.1) relative m.2)
    let t := forEach targets (fun m u => giveClampedTarget m.1 m.2 (setOverride m.1 ov u)) s
    if wait then waitForAxes st (moves.foldl (fun v m => addBit v m.1.val) 0) next t else (t, some next)

/-- A MOVE record, checked against the station's set (R64). -/
def moveStep (st : StationId) (r : List Byte) (next : Nat) (s : State) : State × Option Nat :=
  let rec1 := (s.station st).cfg
  let ov := clampOverride (u8 r 3)
  let rel := hasBit (r.getD 4 0) 0
  let wait := hasBit (r.getD 4 0) 1
  match rec1.axisIn (u8 r 1) with
  | none => (showFault st .stepInvalid s, none)
  | some a1 =>
    if u8 r 2 = 0xFF then takeMove st [(a1, i24 r 5)] ov rel wait next s
    else match rec1.axisIn (u8 r 2) with
      | none => (showFault st .stepInvalid s, none)
      | some a2 =>
        if a1 = a2 then (showFault st .stepInvalid s, none)
        else takeMove st [(a1, i24 r 5), (a2, i24 r 8)] ov rel wait next s

/-- A LAMPS record: applied at once, or armed on the encoder position of its trigger axis (R68, R69). -/
def lampsStep (st : StationId) (r : List Byte) (next : Nat) (s : State) : State × Option Nat :=
  let set := r.getD 1 0
  let clear := r.getD 2 0
  if u8 r 3 = 0xFF then (applyPattern st set clear s, some next)
  else match (s.station st).cfg.axisIn (u8 r 3) with
    | none => (showFault st .stepInvalid s, none)
    | some a =>
      let d := s.encPos a - i32 r 4
      if d = 0 then (applyPattern st set clear s, some next)
      else
        (s.setPlayer st { (s.station st).player with
          trigger := some { axis := a, position := i32 r 4, above := decide (0 < d), setMask := set, clearMask := clear } },
         some next)

/-- A TONE record (R71). -/
def toneStep (st : StationId) (r : List Byte) (next : Nat) (s : State) : State × Option Nat :=
  let pitch := u16 r 1
  let dur := u16 r 4
  if pitch < 16 || 4000 < pitch || 15 < u8 r 3 || dur = 0 then (showFault st .stepInvalid s, none)
  else (playTone (s.station st).cfg.zone pitch (u8 r 3) dur s, some next)

/-- A LOOP record (R72). -/
def loopStep (st : StationId) (next : Nat) (s : State) : State × Option Nat :=
  let p := (s.station st).player
  if p.loopCount = 0 then (s, some next)
  else
    let t := s.setPlayer st { p with loopCount := p.loopCount - 1 }
    if p.loopCount - 1 = 0 then (t, some next)
    else (t, some (p.loopMark.getD next))

/-- Takes the step at the current place (R63 to R73): the state after it, and the place to go to if it completes at once. -/
def takeStep (st : StationId) (s : State) : State × Option Nat :=
  let x := s.station st
  let r := s.stepRecord (x.cfg.windowBase + x.player.current)
  let next := x.player.current + 1
  match u8 r 0 with
  | 0 =>
    if s.ownedAtRest st then (endShow st s, none)
    else (s.setPlayer st { x.player with wait := .finish }, none)
  | 1 => moveStep st r next s
  | 2 =>
    if u16 r 1 = 0 then (s, some next)
    else (s.setPlayer st { x.player with wait := .time, deadline := some (s.after (u16 r 1)) }, none)
  | 3 => waitForAxes st x.cfg.axes next s
  | 4 => lampsStep st r next s
  | 5 => toneStep st r next s
  | 6 => (s.setPlayer st { x.player with loopCount := max 1 (u8 r 1), loopMark := some next }, some next)
  | 7 => loopStep st next s
  | _ => (showFault st .stepInvalid s, none)

/-- Takes steps until one does not complete at once (R63); leaving the last place of the window faults with STEP_RANGE. -/
def takeSteps : Nat → StationId → State → State
  | 0, _, s => s
  | n + 1, st, s =>
    match takeStep st s with
    | (t, none) => t
    | (t, some k) =>
      if k < (t.station st).cfg.windowSize then
        takeSteps n st (t.setPlayer st { (t.station st).player with current := k })
      else showFault st .stepRange t

/-- The event that ends the wait: the step completes and the player advances (R63). -/
def completeWait (st : StationId) (s : State) : State :=
  let p := (s.station st).player
  let t := s.setPlayer st { p with wait := .none, waitAxes := 0, reported := 0, deadline := none, remaining := 0 }
  if p.current + 1 < (s.station st).cfg.windowSize then
    takeSteps Config.stepsPerEvent st (t.setPlayer st { (t.station st).player with current := p.current + 1 })
  else showFault st .stepRange t

/-- The player is started at an admission (R62). -/
def startPlayer (st : StationId) (s : State) : State :=
  takeSteps Config.stepsPerEvent st (s.setPlayer st { state := .playing })

/-- An AXES or END wait completes when all its axes count as reported, or all owned axes are at rest (R67, R73). -/
def judgeWait (st : StationId) (s : State) : State :=
  let p := (s.station st).player
  match p.wait with
  | .axes => if covered p.waitAxes p.reported then completeWait st s else s
  | .finish => if s.ownedAtRest st then endShow st s else s
  | _ => s

/-- An axis of a station is reported at rest: its player's wait may complete, and a STOPPING station may end (R83). -/
def stationRest (st : StationId) (a : AxisId) (s : State) : State :=
  let x := s.station st
  if x.state = .stopping then tryEndStopping st s
  else if x.player.state = .playing then
    judgeWait st (s.setPlayer st { x.player with reported := addBit x.player.reported a.val })
  else s

/-! ### Hold, release, triggers -/

/-- The player is HELD: moving axes stop keeping their targets, a TIME wait freezes (R75). -/
def holdPlayer (st : StationId) (s : State) : State :=
  let p := (s.station st).player
  let left := match p.deadline with
    | some d => s.msLeft d
    | none => 0
  let t := s.setPlayer st { p with state := .held, deadline := none, remaining := left }
  forEach (t.owned st) (stopAxis .keep) t

/-- An axis held with its target kept moves toward it again (R76, R85). -/
def resumeAxis (a : AxisId) (s : State) : State := match (s.axis a).target with
  | some t => if (s.axis a).refusesTarget then s else giveTarget a t s
  | none => s

/-- The wait of a released player resumes (R76). -/
def resumePlayer (st : StationId) (s : State) : State :=
  let p := (s.station st).player
  match p.wait with
  | .time =>
    if p.remaining = 0 then completeWait st s
    else s.setPlayer st { p with deadline := some (s.after p.remaining), remaining := 0 }
  | .axes => judgeWait st (s.setPlayer st { p with reported := s.restingOf p.waitAxes })
  | _ => judgeWait st s

/-- The encoder position of an axis has changed: armed patterns on it that are reached or passed are applied (R70). -/
def crossTriggers (a : AxisId) (s : State) : State :=
  forEach stationIds (fun st t => match (t.station st).player.trigger with
    | some g =>
      let d := t.encPos a - g.position
      if g.axis = a && (d = 0 || decide (0 < d) != g.above) then
        applyPattern st g.setMask g.clearMask
          (t.setPlayer st { (t.station st).player with trigger := none })
      else t
    | none => t) s

end Sys2Proof.Machine
end

