-- ==== Sys2Proof/Machine/Admission.lean ====
section
/-! DEFINITION. The admission unit (Demand Queue, Admission and the Drive Budget), with the gallery's own motion: entries,
admission passes, grants, gallery claims and sequences, homing, parking, and the progress of OPENING and CLOSING. -/

namespace Sys2Proof.Machine

open Sys2Proof

/-! ### The demand queue -/

/-- An entry is made, or refused when the queue holds 8 (R40): `none` is the refusal. The station enters QUEUED. -/
def makeEntry (st : StationId) (src : Source) (s : State) : Option State :=
  if s.admission.queue.length < Config.demandQueueSize then
    let e : Entry := { station := st, source := src, arrival := s.now, presses := 1, senior := false }
    some (markPass (changeState st .queued none
      (s.setAdmission { s.admission with queue := s.admission.queue ++ [e] })))
  else none

/-- A change of a station's entry in place (R41). -/
def mapEntry (st : StationId) (f : Entry → Entry) (s : State) : State :=
  s.setAdmission { s.admission with queue := s.admission.queue.map fun e => if e.station = st then f e else e }

/-- Age of an entry, in ms (R48). -/
def State.entryAge (s : State) (e : Entry) : Nat := (s.now - e.arrival).toNat

/-- The entry's age has reached the starve limit; with a limit of 0 it never does (R48). -/
def State.starved (s : State) (e : Entry) : Bool :=
  s.gallery.cfg.starve ≠ 0 && s.gallery.cfg.starve * 1000 ≤ s.entryAge e

/-- The entry that becomes senior next is the oldest one below seniority (R48). -/
def State.nextSenior (s : State) : Option Entry := s.admission.queue.find? fun e => !e.senior

/-! ### Grants -/

/-- The sum of the rated draws of a list of axes. -/
def State.drawOf (s : State) (l : List AxisId) : Nat := l.foldl (fun n a => n + (s.axis a).cfg.ratedDraw) 0

/-- An axis is granted to an owner and its draw charged (R52, R55). -/
def grantAxis (o : Owner) (a : AxisId) (s : State) : State :=
  let x := s.axis a
  let t := s.setAxis a { x with owner := o }
  judgeBridge a (t.setAdmission { t.admission with claimed := t.admission.claimed + x.cfg.ratedDraw })

/-- The entry of a station is admissible now (R46). -/
def State.admissible (s : State) (st : StationId) : Bool :=
  s.gallery.mode = .openMode && !s.admission.hold && (s.station st).cfg.usable
    && ((s.setAxes st).all fun a =>
      let x := s.axis a
      x.owner = .none && x.healthy && !x.braked && x.state = .idle)
    && s.drawOf (s.setAxes st) ≤ s.freeBudget

/-- The admission of a station's entry (R52); the AXIS_STATE notices follow the first steps of its player (R54). -/
def admitEntry (st : StationId) (s : State) : State :=
  let set := (s.station st).cfg.axes
  let t := forEach (axesOf set) (grantAxis (.station st)) (removeEntry st s)
  noticeAxes set (startPlayer st (changeState st .running none t))

/-- The scan of an admission pass over the entries, oldest first (R49). -/
def passOver : List Entry → State → State
  | [], s => s
  | e :: es, s =>
    if s.admissible e.station then passOver es (admitEntry e.station s)
    else if e.senior then s
    else passOver es s

/-- An admission pass; outside OPEN and under the hold it admits nothing (R49, R50). -/
def admissionPass (s : State) : State :=
  if s.gallery.mode = .openMode && !s.admission.hold then passOver s.admission.queue s else s

/-! ### Gallery claims (R55, R56) -/

/-- The claim on an axis ends: owner none, draw subtracted, a scan and a pass due (R56). -/
def endClaim (a : AxisId) (s : State) : State := markScan (markPass (releaseAxis a s))

/-- An axis is reported at rest to its owner (R83). -/
def reportRest (a : AxisId) (s : State) : State := match (s.axis a).owner with
  | .none => s
  | .station st => stationRest st a s
  | .gallery => endClaim a s

/-- The axis leaves the homing and the parking waiting sets (R55). -/
def leaveWaiting (a : AxisId) (s : State) : State :=
  s.setAdmission { s.admission with
    homingWait := delBit s.admission.homingWait a.val
    parkingWait := delBit s.admission.parkingWait a.val }

/-- The target of a seek or of an AWAY move: the travel limit from the commanded position in whole counts, in the home
direction or against it (R97, R99). -/
def Axis.homingTarget (x : Axis) (inHome : Bool) : Int :=
  if x.cfg.homePositive = inHome then x.cmdCounts + x.cfg.travel else x.cmdCounts - x.cfg.travel

/-- The start of the seek (R99). -/
def Axis.startSeek (x : Axis) : Axis := { x with phase := some .seek }.setTarget (x.homingTarget true)

/-- The start of the AWAY phase (R97). -/
def Axis.startAway (x : Axis) : Axis := { x with phase := some .away }.setTarget (x.homingTarget false)

/-- The raw level of an axis's home line, inactive without one (R32). -/
def State.homeActive (s : State) (a : AxisId) : Bool := match s.homeLine a with
  | some l => (s.line l).raw
  | none => false

/-- A homing begins at the grant (R97). -/
def beginHoming (a : AxisId) (s : State) : State :=
  let x := s.axis a
  let h := { x with homed := false, state := .homing, stopReq := none, homingLost := false }
  reportHealth a x.healthy (s.setAxis a (if s.homeActive a then h.startAway else h.startSeek))

/-- A parking begins at the grant; an axis that stands at its park position ends it there (R101). -/
def beginPark (a : AxisId) (s : State) : State := match (s.axis a).cfg.park with
  | some p =>
    let t := giveTarget a p s
    if (t.axis a).atRest then endClaim a t else t
  | none => endClaim a s

/-- A waiting axis can be granted at this point of the scan (R55). -/
def State.grantable (s : State) (a : AxisId) : Bool :=
  let x := s.axis a
  x.configured && x.owner = .none && !x.braked && x.state ≠ .faulted && x.cfg.ratedDraw ≤ s.freeBudget

/-- One scan of the gallery sequence: waiting axes granted in ascending index as the free budget covers each (R55). -/
def scanSequence (s : State) : State :=
  forEach axisIds (fun a t =>
    let homing := hasBit t.admission.homingWait a.val
    if (homing || hasBit t.admission.parkingWait a.val) && t.grantable a then
      let u := leaveWaiting a (grantAxis .gallery a t)
      if homing then beginHoming a u else beginPark a u
    else t) s

/-! ### Passes and scans at their triggers (R50, R51, R55, R56) -/

/-- The scan and then the pass that are due, in rounds until none is due. -/
def runRounds : Nat → State → State
  | 0, s => s
  | n + 1, s =>
    if s.work.scanDue then runRounds n (scanSequence (s.setWork { s.work with scanDue := false }))
    else if s.work.passDue then runRounds n (admissionPass (s.setWork { s.work with passDue := false }))
    else s

/-- A trigger within an event that may bring several: its scan and its pass are made before the next (log 23). -/
def runDue (s : State) : State := runRounds Config.roundsPerEvent s

/-! ### OPENING and CLOSING -/

def State.galleryOwns (s : State) : Bool := axisIds.any fun a => (s.axis a).owner = .gallery

def State.anyHoming (s : State) : Bool := axisIds.any fun a => (s.axis a).state = .homing

def State.anyActive (s : State) : Bool := stationIds.any fun st => (s.station st).state.active

def setMode (m : Mode) (s : State) : State := noticeGalleryMode (s.setGallery { s.gallery with mode := m })

/-- The members of a list of axes that satisfy `p`, as a set. -/
def setOf (p : AxisId → Bool) : AxisSet := axisIds.foldl (fun v a => if p a then addBit v a.val else v) 0

/-- A STANDBY station is judged when OPENING ends (R3). -/
def judgeStandby (st : StationId) (s : State) : State :=
  if (s.station st).state = .standby then
    if !s.groupsClear st || s.supplyDown then enterHalted st s
    else if !s.allHealthy st then enterOutOfService st s
    else enterReady st s
  else s

/-- OPENING ends (R3). -/
def endOpening (s : State) : State := markPass (forEach stationIds judgeStandby (setMode .openMode s))

/-- Parking begins: the parking set is chosen (R6). -/
def beginParking (s : State) : State :=
  let set := setOf fun a =>
    let x := s.axis a
    x.homed && x.healthy && x.cfg.park.isSome && x.owner = .none && !x.braked
      && x.cfg.ratedDraw ≤ s.gallery.cfg.capacity
  let t := s.setGallery { s.gallery with closing := .parking }
  markScan (t.setAdmission { t.admission with parkingWait := set })

/-- A configured station goes to STANDBY with tally, rest-owed and timers cleared (R6). -/
def standDown (st : StationId) (s : State) : State :=
  let x := s.station st
  let t := lampsOff x.cfg.lampLines s
  if x.cfg.enabled then
    changeState st .standby none
      (t.setStation st { x with tally := 0, restOwed := false, cooldownAt := none, restAt := none, leakAt := none,
                                flashAt := none })
  else t

/-- The gallery enters CLOSED (R6). -/
def enterClosed (s : State) : State :=
  forEach stationIds standDown (setMode .closed (s.setGallery { s.gallery with closing := .none }))

/-! ### What an event still brings about -/

/-- The rest of an event, in rounds: the scan due, draining and the homings of an OPENING ended, and, once the AXIS_STATE notices
due have been sent, the end of OPENING and of parking and the admission pass due (R3, R4, R5, R6, R50, R55, R56; log 23). The
notices go after every scan, so that an axis sends one with what the whole event left it (R83; log 11), and before a pass, whose
admissions send their own (R54). Nothing is left due (log 21). -/
def settle : Nat → State → State
  | 0, s => (flushAxes s).setWork {}
  | n + 1, s =>
    if s.work.scanDue then settle n (scanSequence (s.setWork { s.work with scanDue := false }))
    else if s.gallery.mode = .closing && s.gallery.closing = .draining && !s.anyActive then settle n (beginParking s)
    else if s.gallery.mode = .closing && s.gallery.closing = .stoppingHoming && !s.galleryOwns then
      settle n (beginParking s)
    else
      let t := flushAxes s
      if t.gallery.mode = .opening && t.admission.homingWait = 0 && !t.anyHoming && !t.galleryOwns then
        settle n (endOpening t)
      else if t.gallery.mode = .closing && t.gallery.closing = .parking && t.admission.parkingWait = 0
          && !t.galleryOwns then
        settle n (enterClosed t)
      else if t.work.passDue then settle n (admissionPass (t.setWork { t.work with passDue := false }))
      else t

/-- The end of an event (R50: passes run after the event's own effects are complete). -/
def endEvent (s : State) : State := settle Config.roundsPerEvent s

/-! ### Jams and encoder failures (R95, R96) -/

/-- The owner of a faulted axis is told: a station is aborted with FAULT, a gallery claim ends (R95). -/
def tellOwnerFault (a : AxisId) (s : State) : State := match (s.axis a).owner with
  | .none => s
  | .station st => stationRest st a (abortStation st .fault 0 s)
  | .gallery => endClaim a s

/-- An axis becomes FAULTED as by a jam, its bridge is braked, the alert of the fault is raised where this rule orders it,
the station manager is told and then the owner; a FAULTED axis keeps its fault kind, and its further alert is raised all the
same (R95, R96). -/
def faultAxis (a : AxisId) (k : FaultKind) (alert : State → State) (s : State) : State :=
  let x := s.axis a
  if x.state = .unconfigured then s
  else if x.state = .faulted then alert s
  else
    let y := x.eStop (s.encPos a)
    let y := { y with state := .faulted, faultKind := some k, phase := none, homingLost := false, feTimer := none }
    let t := alert (leaveWaiting a (judgeBridge a (s.setAxis a y)))
    tellOwnerFault a (reportHealth a x.healthy t)

/-- A jam (R95). -/
def jamAxis (a : AxisId) (s : State) : State := faultAxis a .jam (raiseAxis .axisJam a) s

/-- An encoder failure: the report to the axis profile unit and the alert, in no stated order (R96, R119). -/
def failEncoder (a : AxisId) (s : State) : State :=
  bothOrders (faultAxis a .encoder fun t => t) (raiseAxis .encoderFailed a) s

end Sys2Proof.Machine
end

