-- ==== Sys2Proof/Machine/Guards.lean ====
section
/-! DEFINITION. The safety monitor's guard groups (Guard Groups and the Supply Monitor, R121 to R131): judging which axes are
braked by safety, braking and freeing them, breaks, restores, arming and key turns. -/

namespace Sys2Proof.Machine

open Sys2Proof

/-! ### Braking and freeing an axis (R92, R93) -/

/-- What a brake does to an axis record; `enc` is its encoder position (R92). A homing that was failing for a lost home line
ends as R92 says of its phase, not as a failure (log 37). -/
def Axis.brake (x : Axis) (enc : Int) : Axis :=
  let y := { x.eStop enc with braked := true, feTimer := none }
  match x.state with
  | .unconfigured => { x with braked := true }
  | .faulted => y
  | .homing => if x.phase = some .captured then (if y.captureGood then y.homingGood else y.homingFail) else y.homingNone
  | .unhomed | .idle | .moving | .stopping => { y with state := y.restState }

/-- An axis is braked by safety: flag, e-stop, bridge, waiting sets, then the reports of what it brought about, with the scan
and the pass of the axes that these release (R92, R50, R55, R56). HOMING_FAILED is raised before the health is reported, and both
before the report at rest that ends the claim: R92, R100, R56 and R151 give no order: DESIGN CHOICE (log 50). -/
def brakeAxis (a : AxisId) (s : State) : State :=
  let x := s.axis a
  let y := x.brake (s.encPos a)
  let t := leaveWaiting a (judgeBridge a (s.setAxis a y))
  let t := if y.state = .faulted && x.state ≠ .faulted then raiseAxis .homingFailed a t else t
  runDue (reportRest a (reportHealth a x.healthy t))

/-- An axis is no longer braked by safety; one that is IDLE brings an admission pass of its own (R93, R50). -/
def freeAxis (a : AxisId) (s : State) : State :=
  let t := judgeBridge a (s.setAxis a { s.axis a with braked := false })
  if (t.axis a).state = .idle then runDue (markPass t) else t

/-! ### The judgement (R122) -/

/-- The axis is to be braked by safety. -/
def State.shouldBrake (s : State) (a : AxisId) : Bool :=
  (s.group (s.axis a).cfg.group).state ≠ .clear || s.supplyDown

/-- The judgement of one axis made anew; an unchanged one tells nothing. -/
def judgeBraked (a : AxisId) (s : State) : State :=
  if s.shouldBrake a = (s.axis a).braked then s
  else if s.shouldBrake a then brakeAxis a s
  else freeAxis a s

/-- The axes of a set of groups judged, in ascending index, each with all that this brings about (R123, R136, R137; R127 leaves the
order at an arming open: log 31). -/
def judgeGroups (p : GroupId → Bool) (s : State) : State :=
  forEach axisIds (fun a t => if p (t.axis a).cfg.group then judgeBraked a t else t) s

/-! ### Breaks and restores (R123 to R125) -/

/-- The axes of a set of groups that are free: those that a break or a trip reaching these groups brakes. -/
def State.freeOf (s : State) (p : GroupId → Bool) : AxisSet := setOf fun a => p (s.axis a).cfg.group && !(s.axis a).braked

/-- The stations of a break or a trip are told: first those whose shows do not play, then the playing ones, each group in
ascending index, and each release of a station's axes with its own pass (R16, R17, R19, R51; log 31). -/
def haltStations (braking : AxisSet) (p : StationId → Bool) (s : State) : State :=
  let playing := stationIds.filter fun st => (s.station st).state.active
  let others := stationIds.filter fun st => !(s.station st).state.active
  forEach (playing.filter p) (fun st t => runDue (haltStation braking st t))
    (forEach (others.filter p) (haltStation braking) s)

/-- Axes that this event brakes leave the waiting sets at it, without being granted (R55). -/
def leaveWaitingAll (set : AxisSet) (s : State) : State := forEach (axesOf set) leaveWaiting s

/-- A break of a line reaches its group (R123, R124). -/
def breakLine (g : GroupId) (l : LineId) (s : State) : State :=
  let x := s.group g
  let t := s.setGroup g { x with state := .broken, brokenLines := addBit x.brokenLines l.val }
  let t := if x.state = .broken then t else noticeGuard g t
  let braking := t.freeOf (fun h => h = g)
  let t := haltStations braking (fun st => t.touches g st) t
  let t := judgeGroups (fun h => h = g) (leaveWaitingAll braking t)
  raiseAlert .guardBroken (.group g) (.zone x.zone) AlertKind.guardBroken.baseSeverity t

/-- A restore of a line reaches its group (R125). -/
def restoreLine (g : GroupId) (l : LineId) (s : State) : State :=
  let x := s.group g
  if hasBit x.brokenLines l.val then
    let left := delBit x.brokenLines l.val
    if left = 0 then
      endAlert .guardBroken (.group g) (noticeGuard g (s.setGroup g { x with state := .unarmed, brokenLines := left }))
    else s.setGroup g { x with brokenLines := left }
  else s

/-! ### Arming (R127 to R130) -/

/-- The zone, or every zone. -/
def ZoneSel.covers (z : ZoneSel) (zone : ZoneId) : Bool := z = .all || z = .zone zone

/-- The UNARMED groups that an arming reaches. -/
def State.armable (s : State) (z : ZoneSel) (g : GroupId) : Bool :=
  (s.group g).state = .unarmed && z.covers (s.group g).zone

/-- The groups of a zone or of all zones armed, their axes judged, the re-arm event delivered (R127). -/
def armZone (z : ZoneSel) (s : State) : State :=
  let made := groupIds.filter (s.armable z)
  let t := forEach made (fun g u => noticeGuard g (u.setGroup g { u.group g with state := .clear })) s
  rearmEvent z (judgeGroups (fun g => made.contains g) t)

/-- Some group of the zone is BROKEN (R130). -/
def State.brokenIn (s : State) (z : ZoneSel) : Bool :=
  groupIds.any fun g => (s.group g).state = .broken && z.covers (s.group g).zone

/-- A key turn: an acknowledgement and a re-arm of the zone, in no stated order (R29, R129, R159). R131 puts the GUARD_STATE
notices of an arming before what the attendant call unit sends in answer to the same event; where the acknowledgement is taken
first, its ALERT notices go before them here, as R129 and R159 leave the two unordered: DESIGN CHOICE (log 44). -/
def keyTurn (z : ZoneId) (s : State) : State := bothOrders (ackZone z) (armZone (.zone z)) s

end Sys2Proof.Machine
end

