-- ==== Sys2Proof/Machine/Motion.lean ====
section
/-! DEFINITION. Motion events: the profile interval of all axes (R82, R86 to R95), jams, encoder transitions (R114 to R119)
and the PWM clock (R108, R110 to R113). -/

namespace Sys2Proof.Machine

open Sys2Proof

/-! ### The profile interval -/

/-- One axis at a profile interval: its profile step and its own record afterwards. -/
structure AxisTurn where
  axis : Axis
  duty : Int
  limit : Bool
  rested : Bool
  failed : Bool
  deriving DecidableEq, Repr

/-- The profile step of an axis with the ends of motion settled, then duty and following-error timer for an axis under the
servo loop, or the commanded position taken from the encoder for any other configured axis (R82, R87, R94, R95). -/
def Axis.turn (x : Axis) (derate : Nat) (enc : Int) : AxisTurn :=
  let o : StepOut := if x.steps then x.profileStep derate else ⟨x, 0, false, false, false⟩
  let y := Axis.settleStep o
  let e := followingError y.cmdCounts enc
  let z :=
    if y.servoed then { y with feTimer := feTick y.cfg.feLimit e y.feTimer }
    else if y.configured then { y with cmd := y.cmdFromEncoder enc, feTimer := none }
    else y
  { axis := z
    duty := if y.servoed then dutyOf y.cfg e o.v else 0
    limit := o.limit
    rested := o.arrived || (o.stopped && x.stopReq = some .discard)
    failed := y.state = .faulted && x.state ≠ .faulted }

/-- The record and the duty of one axis written; the reports of what came about follow later (log 18). -/
def writeTurn (a : AxisId) (s : State) : State :=
  let u := (s.axis a).turn s.axes.derate (s.encPos a)
  let t := s.setAxisQuiet a u.axis
  if (s.axis a).configured then t.setBridge a { t.bridge a with buffered := u.duty } else t

/-- What one axis's turn brings about beyond its record; `old` is the axis before the interval. Its LIMIT_STOP or HOMING_FAILED is
raised first, then a change of its health is reported, and last its rest, which may end a claim and with it OPENING: R91, R100,
R56, R3 and R151 give no order among these: DESIGN CHOICE (log 50). -/
def reportTurn (a : AxisId) (old : Axis) (u : AxisTurn) (s : State) : State :=
  let t := if !sameShown old u.axis && (s.axis a).owner = old.owner then
      s.setWork { s.work with dirty := addBit s.work.dirty a.val }
    else s
  let t := if u.limit then raiseAxis .limitStop a t else t
  let t := if u.failed then raiseAxis .homingFailed a (judgeBridge a t) else t
  let t := reportHealth a old.healthy t
  if u.rested && (t.axis a).atRest then reportRest a t else t

/-- An axis whose turn must be reported. -/
def AxisTurn.tells (u : AxisTurn) (old : Axis) : Bool := u.limit || u.rested || u.failed || !sameShown old u.axis

/-- The profile interval of every axis: all steps, duties and following errors first, since one axis's step touches no other,
then the reports, in no stated order among axes (R87; log 18). -/
def profileAll (s : State) : State :=
  let turns := axisIds.map fun a => (a, s.axis a, (s.axis a).turn s.axes.derate (s.encPos a))
  forEachUnordered (turns.filter fun m => m.2.2.tells m.2.1) (fun m t => endEvent (reportTurn m.1 m.2.1 m.2.2 t))
    (forEach axisIds writeTurn s)

/-- FOLLOWING_ERROR_JAM: the following-error timer has reached the following-error time (R95). -/
def followingJam (a : AxisId) (s : State) : State := if (s.axis a).jamDue then endEvent (jamAxis a s) else s

/-- The axes that are due to jam, in ascending index. -/
def State.jamsDue (s : State) : List AxisId := axisIds.filter fun a => (s.axis a).jamDue

/-- PROFILE_INTERVAL: the jams that the interval before has made due are taken first, if they have not been taken yet (log 4).
Several of them come in a free order, each with its releases and its own passes: R51 has the triggering events of one millisecond
handled in either order, and neither it nor R95 orders the jams of several axes: DESIGN CHOICE, every order may come (log 49). -/
def profileInterval (s : State) : State := profileAll (forEachUnordered s.jamsDue followingJam s)

/-! ### Encoder transitions -/

/-- A legal transition that counts `d` (R115 to R118). -/
def legalTransition (a : AxisId) (new : Bool × Bool) (d : Int) (s : State) : State :=
  let b := s.bridge a
  let raw := addRaw b.raw (if (s.axis a).cfg.encInvert then -d else d)
  let t := s.setBridge a { b with held := some new, raw := raw, err := b.err - 1 }
  let t := if raw = b.raw then t else crossTriggers a t
  if Config.encoderSuspect ≤ b.err && b.err - 1 < Config.encoderSuspect then endAlert .encoderSuspect (.axis a) t else t

/-- An illegal transition (R117 to R119). -/
def illegalTransition (a : AxisId) (new : Bool × Bool) (s : State) : State :=
  let b := s.bridge a
  let err := min Config.encoderErrMax (b.err + Config.encoderCharge)
  let t := s.setBridge a { b with held := some new, err := err }
  let t := if b.err < Config.encoderSuspect && Config.encoderSuspect ≤ err then raiseAxis .encoderSuspect a t else t
  if b.err < Config.encoderErrMax && err = Config.encoderErrMax then endEvent (failEncoder a t) else t

/-- ENCODER_TRANSITION: the new phase pair of an axis (R114, R115). No command carries an observation without a change, so the
first transition after a reset, or after an axis is configured anew, is taken as the first observation (log 39). -/
def encoderTransition (a : AxisId) (new : Bool × Bool) (s : State) : State :=
  if (s.axis a).configured then
    match (s.bridge a).held with
    | none => s.setBridge a { s.bridge a with held := some new }
    | some old =>
      if old = new then s
      else match quadrature old new with
        | some d => legalTransition a new d s
        | none => illegalTransition a new s
  else s

/-! ### The PWM clock -/

/-- PWM_PERIOD_START: the frequency and dead time in force are the configured ones from here on, and every bridge starts its
period (R108, R110 to R113). -/
def periodStart (s : State) : State :=
  let kHz := s.gallery.cfg.pwmKhz
  let dead := s.gallery.cfg.deadTime
  forEach axisIds (fun a t => t.setBridge a ((t.bridge a).periodStart (t.axis a) kHz dead))
    { s with drive := { s.drive with pwmKhz := kHz, deadTime := dead } }

end Sys2Proof.Machine
end

