-- ==== Sys2Proof/Machine/SupplyMonitor.lean ====
section
/-! DEFINITION. The supply monitor (R132 to R138): counting samples, and what each change of its state brings about. -/

namespace Sys2Proof.Machine

open Sys2Proof

/-- W + H. -/
def Supply.recoverLevel (u : Supply) : Nat := u.cfg.warn + u.cfg.hyst

/-- The monitor counts samples in NORMAL and in LOW. -/
def Supply.counting (u : Supply) : Bool := u.state = .normal || u.state = .low

/-- The trip count has reached the trip confirm (R134). -/
def Supply.tripDue (u : Supply) : Bool := u.counting && u.cfg.tripConfirm ≤ u.tripCount

/-- The warn count has reached the warn confirm, and no trip is taken instead (R133). -/
def Supply.warnDue (u : Supply) : Bool := u.counting && u.cfg.warnConfirm ≤ u.warnCount && !u.tripDue

/-- The counts after a sample in NORMAL or LOW (R133). -/
def Supply.count (u : Supply) (v : Nat) : Supply :=
  let warns := match u.state with
    | .low => decide (u.recoverLevel ≤ v)
    | _ => decide (v < u.cfg.warn)
  { u with warnCount := if warns then u.warnCount + 1 else 0, tripCount := if v < u.cfg.trip then u.tripCount + 1 else 0 }

/-- A change of the monitor's state with its notice (R138). -/
def setSupplyState (new : Supply) (s : State) : State := noticeSupply s.safety.supply.state (s.setSupply new)

def setDerate (d : Nat) (s : State) : State := { s with axes := { s.axes with derate := d } }
def setHold (b : Bool) (s : State) : State := s.setAdmission { s.admission with hold := b }

/-- Entry to LOW from NORMAL (R135). -/
def enterLow (s : State) : State :=
  let t := setSupplyState { s.safety.supply with state := .low, warnCount := 0 } s
  raiseAlert .supplyLow .supply .all AlertKind.supplyLow.baseSeverity (setHold true (setDerate 50 t))

/-- Entry to NORMAL from LOW (R135). -/
def leaveLow (s : State) : State :=
  let t := setSupplyState { s.safety.supply with state := .normal, warnCount := 0 } s
  markPass (setHold false (endAlert .supplyLow .supply (setDerate 100 t)))

/-- Entry to TRIPPED from NORMAL or LOW (R136). -/
def enterTripped (s : State) : State :=
  let u := s.safety.supply
  let t := setHold true (setSupplyState { u with state := .tripped, warnCount := 0, tripCount := 0 } s)
  let t := if u.state = .low then endAlert .supplyLow .supply (setDerate 100 t) else t
  let braking := t.freeOf (fun _ => true)
  let t := haltStations braking (fun _ => true) t
  let t := judgeGroups (fun _ => true) (leaveWaitingAll braking t)
  raiseAlert .supplyTrip .supply .all AlertKind.supplyTrip.baseSeverity t

/-- Entry to NORMAL from RECOVERING (R137). -/
def supplyRecovered (s : State) : State :=
  let u := s.safety.supply
  let t := setSupplyState { u with state := .normal, warnCount := 0, tripCount := 0, recoveryAt := none } s
  markPass (setHold false (endAlert .supplyTrip .supply (judgeGroups (fun _ => true) t)))

/-- WARN_CONFIRM: the warn count has reached the warn confirm (R133, R135). -/
def warnConfirm (s : State) : State :=
  if s.safety.supply.warnDue then
    endEvent (if s.safety.supply.state = .low then leaveLow s else enterLow s)
  else s

/-- TRIP_CONFIRM: the trip count has reached the trip confirm (R134, R136). -/
def tripConfirm (s : State) : State := if s.safety.supply.tripDue then endEvent (enterTripped s) else s

/-- One supply sample (R132 to R134); a confirm that the sample before has made due is taken first, if it has not been
taken yet (log 4). -/
def supplySample (v : Nat) (s0 : State) : State :=
  let s := warnConfirm (tripConfirm s0)
  let u := { s.safety.supply with latest := v }
  match u.state with
  | .normal | .low => s.setSupply (u.count v)
  | .tripped =>
    if u.recoverLevel ≤ v then
      setSupplyState { u with state := .recovering, recoveryAt := some (s.after u.cfg.recovery) } s
    else s.setSupply u
  | .recovering =>
    if v < u.recoverLevel then setSupplyState { u with state := .tripped, recoveryAt := none } s
    else s.setSupply u

/-- RECOVERY_TIMER_EXPIRY (R134, R137). -/
def recoveryExpiry (s : State) : State :=
  if s.safety.supply.state = .recovering && s.runOut s.safety.supply.recoveryAt then endEvent (supplyRecovered s) else s

end Sys2Proof.Machine
end

