-- ==== Sys2Proof/Machine/InputLines.lean ====
section
/-! DEFINITION. The input line unit (Input Lines and Presses): sampling, debounce, the events of each role, stuck lines, and
what a visitor press does (R9, R10). -/

namespace Sys2Proof.Machine

open Sys2Proof

/-! ### One line at one sample -/

/-- The level of a pin read through the polarity: true for active (R25). -/
def LineCfg.level (c : LineCfg) (pinHigh : Bool) : Bool := pinHigh != c.activeLow

def LineRole.isGuard : LineRole → Bool
  | .guard _ => true
  | _ => false

/-- Roles with stuck detection (R34). -/
def LineRole.hasStuck : LineRole → Bool
  | .demand _ | .key => true
  | _ => false

/-- When a press recognised at a sample time makes the line stuck (R34). -/
def LineCfg.stuckFrom (c : LineCfg) (t : Time) : Option Time :=
  if c.role.hasStuck && c.stuckLimit ≠ 0 then some (t + BitVec.ofNat 32 (c.stuckLimit * 1000)) else none

/-- This sample is a break: a GUARD line active while its debounced level is inactive, or at its first sample (R24, R30). -/
def Line.breaks (x : Line) (pinHigh : Bool) : Bool :=
  x.cfg.role.isGuard && x.cfg.level pinHigh && (x.fresh || !x.debounced)

/-- A line after a sample taken at time `t`, but for the change of a full debounce count (R24 to R26, R30). At the first sample
after a reset a DEMAND or KEY line that CFG_LINE has configured before it starts its stuck timer, as R24 says, where R25 has
every stuck timer stopped at that sample (log 34). -/
def Line.sample (x : Line) (pinHigh : Bool) (t : Time) : Line :=
  let raw := x.cfg.level pinHigh
  if x.breaks pinHigh then { x with raw := raw, debounced := true, count := 0, pressed := true, fresh := false }
  else if x.fresh then
    { x with raw := raw, debounced := raw, count := 0, fresh := false,
             stuckAt := if raw then x.cfg.stuckFrom t else none }
  else if raw = x.debounced then { x with raw := raw, count := 0 }
  else { x with raw := raw, count := x.count + 1 }

/-- The debounce count has reached the debounce time (R26). -/
def Line.due (x : Line) : Bool := !x.fresh && x.raw != x.debounced && x.cfg.debounce ≤ x.count

/-- The line after its press (R26, R27, R34). -/
def Line.press (x : Line) (t : Time) : Line :=
  { x with debounced := true, count := 0, pressed := true, stuckAt := x.cfg.stuckFrom t }

/-- The line after its release (R26, R27, R35). -/
def Line.release (x : Line) : Line :=
  { x with debounced := false, count := 0, released := true, stuckAt := none, stuck := false }

/-! ### Visitor presses (R9, R10) -/

/-- A press at a READY station: the tally first, then an entry or a flash. -/
def pressReady (st : StationId) (s : State) : State :=
  let t := raiseTally st s
  if (t.station st).trips then startRest st (clearTally st t)
  else match makeEntry st .visitor t with
    | some u => u
    | none => startFlash st t

/-- A visitor press reaches the station manager (R9). -/
def visitorPress (st : StationId) (s : State) : State :=
  if s.gallery.mode = .openMode then
    match (s.station st).state with
    | .ready => pressReady st s
    | .queued => mapEntry st (fun e => { e with presses := min 255 (e.presses + 1) }) (countPress st s)
    | .running | .paused | .stopping | .cooldown => startFlash st (countPress st s)
    | .resting | .halted | .outOfService | .unconfigured | .standby => s
  else s

/-! ### Recognised changes of level -/

/-- The LINE_EVENT notice of an event recognised at the latest sample (R36). -/
def noticeLineEvent (l : LineId) (e : LineEvent) (s : State) : State :=
  noticeLine l e (s.line l).cfg.role (s.line l).cfg.zone s.lines.sampleTime s

/-- A press is recognised and delivered (R27 to R29). -/
def linePress (l : LineId) (s : State) : State :=
  let t := noticeLineEvent l .press (s.setLine l ((s.line l).press s.lines.sampleTime))
  match (s.line l).cfg.role with
  | .demand st => visitorPress st t
  | .key => keyTurn (s.line l).cfg.zone t
  | .unused | .guard _ | .home _ | .spare => t

/-- The end of a stuck condition, with the notice of the line being unstuck (R35, R36). -/
def unstick (l : LineId) (was : Bool) (s : State) : State :=
  if was then endAlert .inputStuck (.line l) (noticeLineEvent l .unstuck s) else s

/-- A release, or the restore of a GUARD line, is recognised and delivered (R31, R35). -/
def lineRelease (l : LineId) (s : State) : State :=
  let x := s.line l
  let t := s.setLine l x.release
  match x.cfg.role with
  | .guard g => restoreLine g l (noticeLineEvent l .restore t)
  | .unused | .demand _ | .key | .home _ | .spare => unstick l x.stuck (noticeLineEvent l .release t)

/-- LINE_DEBOUNCED: a line's count has reached its debounce time (R26). -/
def lineDebounced (l : LineId) (s : State) : State :=
  if (s.line l).due then endEvent (if (s.line l).raw then linePress l s else lineRelease l s) else s

/-! ### Events of one sample -/

/-- What comes about at a sample: a break (R30) and a raw edge of a HOME line with the raw count it carries (R32), both without
debounce, and a change of debounced level whose count the sample fills (R26). -/
inductive SampleEvent where
  | lineBreak (l : LineId) (g : GroupId)
  | homeEdge (ax : AxisId) (active : Bool) (count : Int)
  | levelChange (l : LineId)
  deriving DecidableEq, Repr

/-- The event is one that the sample itself delivers; a change of level can wait for its LINE_DEBOUNCED. -/
def SampleEvent.atOnce : SampleEvent → Bool
  | .lineBreak _ _ | .homeEdge _ _ _ => true
  | .levelChange _ => false

/-- The events that one line delivers at once at a sample; an edge needs an earlier sample to compare with (log 22). -/
def State.eventsOf (s : State) (pins : LineSet) (l : LineId) : List SampleEvent :=
  let x := s.line l
  match x.cfg.role with
  | .guard g => if x.breaks (hasBit pins l.val) then [.lineBreak l g] else []
  | .home a =>
    let raw := x.cfg.level (hasBit pins l.val)
    if s.lines.sampled && raw != x.raw then [.homeEdge a raw (s.bridge a).raw] else []
  | .unused | .demand _ | .key | .spare => []

/-- A homing capture at the raw count an edge carries (R99); an axis captured at velocity 0 ends its homing at the next profile
interval (log 36). -/
def Axis.capture (x : Axis) (count : Int) : Axis :=
  let off := x.cfg.homePos - count
  { x with offset := off, cmd := x.cmd + (off - x.offset) * 256, phase := some .captured, target := none,
           stopReq := some .discard }

/-- A raw home edge reaches the axis profile unit, which acts on it while it homes the axis and does not stop it (R98, R99;
log 17). -/
def homeEdge (a : AxisId) (active : Bool) (count : Int) (s : State) : State :=
  let x := s.axis a
  if x.state = .homing && x.stopReq = none then
    match x.phase, active with
    | some .away, false => s.setAxis a x.startSeek
    | some .seek, true => s.setAxis a (x.capture count)
    | _, _ => s
  else s

def deliverSample : SampleEvent → State → State
  | .lineBreak l g, s => endEvent (breakLine g l (noticeLineEvent l .break s))
  | .homeEdge a active count, s => endEvent (homeEdge a active count s)
  | .levelChange l, s => lineDebounced l s

/-- A list up to its last member with a property. -/
def upToLast {α : Type} (p : α → Bool) : List α → List α
  | [] => []
  | x :: l => if (x :: l).any p then x :: upToLast p l else []

/-- The lines whose debounce counts are full, in ascending index. -/
def State.dueLines (s : State) : List LineId := lineIds.filter fun l => (s.line l).due

/-- The breaks and home edges of a sample, with the changes of level that the same sample makes due. R125 and R129 let a restore
or a key turn come before or after a break of its sample; R28 and R32 give no order of a DEMAND press, a release or a home edge
against a break or against each other, and the model lets these come in any order too: DESIGN CHOICE (log 41). All of them are
put into one free order (log 5) and taken up to the last break or edge; the changes of level that stand after it are left to
their LINE_DEBOUNCED (log 4). -/
def deliverMoment (now : List SampleEvent) (s : State) : State :=
  if now.isEmpty then s
  else
    let all := now ++ s.dueLines.map .levelChange
    let (order, t) := arrange all.length all s
    forEach (upToLast SampleEvent.atOnce order) deliverSample t

/-- All forty lines sampled (R25). -/
def sampleLines (pins : LineSet) (s : State) : State :=
  let t := forEach lineIds (fun l u => u.setLine l ((u.line l).sample (hasBit pins l.val) s.now)) s
  { t with lines := { t.lines with sampled := true, sampleTime := s.now } }

/-- INPUT_SAMPLE: changes that the sample before has made due are taken first, if they have not been taken yet (log 4); then
every line is sampled, then the breaks and home edges are delivered, in a free order among themselves and with the changes of
level that this sample makes due: the orders that R125 and R129 give, and for a DEMAND press and a break, which R28 leaves open,
either order (DESIGN CHOICE, log 41). -/
def inputSample (pins : LineSet) (s0 : State) : State :=
  let s := forEachUnordered s0.dueLines lineDebounced s0
  deliverMoment (lineIds.flatMap (s.eventsOf pins)) (sampleLines pins s)

/-- STUCK_TIMER_EXPIRY (R34). The STUCK notice has no sample of its own: it carries the present time (log 33, R36). -/
def stuckExpiry (l : LineId) (s : State) : State :=
  let x := s.line l
  if s.runOut x.stuckAt then
    let t := s.setLine l { x with stuck := true, stuckAt := none }
    let t := noticeLine l .stuck x.cfg.role x.cfg.zone s.now t
    raiseAlert .inputStuck (.line l) (.zone x.cfg.zone) AlertKind.inputStuck.baseSeverity t
  else s

end Sys2Proof.Machine
end

