-- ==== Sys2Proof/Machine/Flags.lean ====
section
/-! DEFINITION. The packed status bytes of replies: STATUS, QUERY_LINES, QUERY_ALERTS, QUERY_AXIS and the two-bit fields of
lamp and beacon states (Messages on the Host Link, Layouts). -/

namespace Sys2Proof.Machine

open Sys2Proof

/-- Byte 2 of STATUS (R183). -/
def State.statusFlags (s : State) : Byte :=
  byte (flagBit s.gallery.safetyFixed 0 + flagBit s.link.noticesLost 1 + flagBit s.alerts.overflow 2
    + flagBit s.admission.hold 3)

/-- One line of QUERY_LINES (R37). -/
def Line.flags (x : Line) : Byte :=
  byte (flagBit x.debounced 0 + flagBit x.raw 1 + flagBit x.pressed 2 + flagBit x.released 3 + flagBit x.stuck 4)

/-- Four two-bit codes packed into a byte, the first lowest. -/
def pack4 (c : Nat → Nat) : Byte := byte (c 0 + 4 * c 1 + 16 * c 2 + 64 * c 3)

/-- The commanded states of LP0..LP23, four lines to a byte (R37). -/
def State.lampBytes (s : State) : List Byte :=
  (List.range 6).map fun k => pack4 fun j => match toFin? 24 (4 * k + j) with
    | some i => (s.lamp i).code.toNat
    | none => 0

/-- The beacon states of BC0..BC3 (R168). -/
def State.beaconByte (s : State) : Byte := pack4 fun j => match toFin? 4 j with
  | some z => (s.alerts.beacon z).code
  | none => 0

/-- Overflow, quiet and mask bits of QUERY_ALERTS (R168). -/
def State.alertFlags (s : State) : Byte :=
  byte (flagBit s.alerts.overflow 0 + flagBit s.alerts.quiet 1 + 4 * s.alerts.masks.toNat)

/-- The number of entries in the alert table. -/
def AlertUnit.entries (u : AlertUnit) : Nat := (slotIds.filter fun i => (u.slots.get i).isSome).length

/-- Flags of QUERY_AXIS, part STATE. -/
def Axis.flags (x : Axis) : Byte :=
  byte (flagBit x.homed 0 + flagBit x.braked 1 + flagBit x.negative 2 + flagBit x.target.isSome 3)

end Sys2Proof.Machine
end

