-- ==== Sys2Proof/Machine/Link.lean ====
section
/-! DEFINITION. The link unit (Messages on the Host Link, R169 to R181): the frame on the wire, the receiver, the framer, the
request handler's reply, the transmitter and the two resets. The answers to requests come in as a function. -/

namespace Sys2Proof.Machine

open Sys2Proof

/-! ### Answers and replies (R174, R175) -/

/-- What the owning block returns for a request: the state it leaves, a status, the data, and what happens when the reply has
been sent. -/
structure Ans where
  state : State
  status : Status
  data : List Byte := []
  effect : ReplyEffect := .none
  deriving DecidableEq, Repr

/-- A refusal changes nothing (R174). -/
def refuse (st : Status) (s : State) : Ans := { state := s, status := st }
def accept (s : State) : Ans := { state := s, status := .ok }
/-- A query's answer. -/
def report (data : List Byte) (s : State) : Ans := { state := s, status := .ok, data := data }

/-- The reply carries data with OK and with GUARD_BROKEN, else the status alone (R174). -/
def Ans.payload (r : Ans) : List Byte :=
  if r.status = .ok || r.status = .guardBroken then r.status.code :: r.data else [r.status.code]

/-- A reply waits for the notices its own request queued (R175). -/
def waitsAfter (before after : State) : Nat :=
  if before.link.notices.length < after.link.notices.length then after.link.notices.length else 0

/-- A frame handled: the answer given and one reply queued (R174). -/
def handleFrame (answer : State → Ans) (f : Frame) (s : State) : State :=
  let r := answer s
  let t := r.state
  t.setLink { t.link with replies := t.link.replies ++
    [{ frame := ⟨f.type + 0x80, f.tag, r.payload⟩, waits := waitsAfter s t, effect := r.effect }] }

/-! ### The frame (R170) -/

/-- The 8-bit sum of bytes. -/
def byteSum (l : List Byte) : Byte := l.foldl (fun a b => a + b) 0

/-- LEN and the body of a frame. -/
def Frame.body (f : Frame) : List Byte := f.type :: f.tag :: f.payload

/-- The bytes of a frame on the wire, with a CHECK that makes it good. -/
def Frame.encode (f : Frame) : List Byte :=
  let inner := byte f.body.length :: f.body
  0xC5 :: (inner ++ [0 - byteSum inner])

/-! ### The framer (R172) -/

/-- One byte taken: the framer after it, and the frame it completes. -/
def Framer.take (b : Byte) : Framer → Framer × Option Frame
  | .hunt => (if b = 0xC5 then .length else .hunt, none)
  | .length => (if 2 ≤ b.toNat && b.toNat ≤ 62 then .body b.toNat [] else .hunt, none)
  | .body n bs =>
    let l := bs ++ [b]
    (if l.length < n then .body n l else .check n l, none)
  | .check n bs =>
    if byte n + byteSum bs + b = 0 then
      match bs with
      | ty :: tag :: p => (.hunt, some ⟨ty, tag, p⟩)
      | _ => (.hunt, none)
    else (.hunt, none)

/-- An interruption met: any frame in progress is discarded. -/
def Framer.interrupt (_ : Framer) : Framer := .hunt

/-! ### The request handler and the receiver (R171, R173) -/

/-- The handler takes a frame while the reply queue holds fewer than 4 replies and no RESET is being answered (R173, R181). -/
def State.canTake (s : State) : Bool := s.link.replies.length < Config.replyQueueSize && !s.link.resetting

/-- A held frame taken by the handler, if it can be. -/
def takeHeld (answer : Frame → State → Ans) (s : State) : State :=
  match s.link.heldFrame with
  | some f => if s.canTake then handleFrame (answer f) f (s.setLink { s.link with heldFrame := none }) else s
  | none => s

/-- The framer takes the bytes of the FIFO while it holds no completed frame, meeting after each byte the interruption
recorded there (R172). -/
def drainBytes (answer : Frame → State → Ans) : List (Byte × Bool) → State → State
  | [], s => s
  | (b, mark) :: rest, s =>
    if s.link.heldFrame.isSome then s
    else
      let (fr, done) := s.link.framer.take b
      let fr := if mark then fr.interrupt else fr
      drainBytes answer rest
        (takeHeld answer (s.setLink { s.link with fifo := rest, framer := fr, heldFrame := done }))

/-- The held frame taken, if it can be, and then the bytes that wait. -/
def receive (answer : Frame → State → Ans) (s : State) : State :=
  let t := takeHeld answer s
  drainBytes answer t.link.fifo t

/-- The newest byte of the FIFO marked with an interruption after it. -/
def markLast : List (Byte × Bool) → List (Byte × Bool)
  | [] => []
  | [(b, _)] => [(b, true)]
  | x :: y :: l => x :: markLast (y :: l)

/-- An interruption: recorded after the newest byte held, or met by the framer at once (R171). -/
def interruption (s : State) : State :=
  if s.link.fifo.isEmpty then s.setLink { s.link with framer := s.link.framer.interrupt }
  else s.setLink { s.link with fifo := markLast s.link.fifo }

/-- The gap timer restarts at each byte that arrives (R171; log 19). -/
def restartGap (s : State) : State := s.setLink { s.link with gapAt := some (s.after s.link.gap) }

/-- A byte arrives without a framing error: stored, or lost when the FIFO is full (R171). -/
def receiveByte (answer : Frame → State → Ans) (b : Byte) (s : State) : State :=
  let t := restartGap s
  if t.link.fifo.length < Config.fifoSize then
    receive answer (t.setLink { t.link with fifo := t.link.fifo ++ [(b, false)] })
  else interruption t

/-! ### The transmitter (R176) -/

/-- The next frame to send: the oldest reply if it is ready, else the oldest notice. -/
def chooseTx (s : State) : State :=
  match s.link.replies with
  | r :: _ =>
    if r.waits = 0 then s.setLink { s.link with tx := .reply r.frame.encode }
    else match s.link.notices with
      | f :: _ => s.setLink { s.link with tx := .notice f.encode }
      | [] => s
  | [] => match s.link.notices with
    | f :: _ => s.setLink { s.link with tx := .notice f.encode }
    | [] => s

/-- An idle transmitter starts a frame as soon as one is queued; while STARTED is due it starts none, so that STARTED is the
first frame after a reset (R179; log 42). -/
def kickTx (s : State) : State := if s.link.tx = .idle && s.link.startedDue.isNone then chooseTx s else s

/-! ### A request given as a command of its own (log 6) -/

/-- The request of a command reaches the handler: at once if it can take a frame, else it is held, and behind a held frame its
bytes arrive in the FIFO. -/
def submit (all : Frame → State → Ans) (own : State → Ans) (f : Frame) (s : State) : State :=
  if s.link.heldFrame.isSome then kickTx (forEach f.encode (receiveByte all) s)
  else if s.canTake then kickTx (handleFrame own f s)
  else s.setLink { s.link with heldFrame := some f }

/-! ### Resets (R181 and the values that each chapter gives) -/

/-- A reset by the reset pin; the commands that wait and the choices for unordered deliveries are not the part's (log 1, 5). -/
def resetByPin (s : State) : State := { State.reset with arb := s.arb, drawn := s.drawn, pending := s.pending }

/-- A reset by the RESET request keeps the link settings (R169, R181). -/
def resetByRequest (s : State) : State :=
  (resetByPin s).setLink { State.reset.link with rate := s.link.rate, gap := s.link.gap, startedDue := some .request }

/-- What the end of a reply brings about (R180, R181). R180 does not say whether a gap timer that runs takes the new gap time:
DESIGN CHOICE, it keeps its end, and the new gap time counts from the next byte (log 48). -/
def replyEffect (e : ReplyEffect) (s : State) : State := match e with
  | .none => s
  | .setLink rate gap => interruption (s.setLink { s.link with rate := rate, gap := gap })
  | .reset => resetByRequest s

/-- The last byte of the frame in transmission has been sent (R173, R175, R176). -/
def frameSent (answer : Frame → State → Ans) (s : State) : State :=
  match s.link.tx with
  | .idle => s
  | .reply _ =>
    match s.link.replies with
    | r :: rs =>
      let t := replyEffect r.effect (s.setLink { s.link with tx := .idle, replies := rs })
      kickTx (receive answer t)
    | [] => kickTx (s.setLink { s.link with tx := .idle })
  | .notice _ =>
    kickTx (s.setLink { s.link with
      tx := .idle, notices := s.link.notices.tail,
      replies := s.link.replies.map fun r => { r with waits := r.waits - 1 } })

/-- The STARTED notice (R179). -/
def startedFrame (c : ResetCause) (rate : Nat) : Frame := ⟨0x40, 0, [c.code, byte rate, byte Config.revision]⟩

/-- The STARTED notice at the first millisecond after a reset: it takes the place kept for it ahead of every notice that a
command has queued before it, and its sending starts, so that it is the first frame and is never dropped (R179; log 42). -/
def sendStarted (s : State) : State := match s.link.startedDue with
  | some c =>
    let f := startedFrame c s.link.rate
    s.setLink { s.link with
      startedDue := none, notices := f :: s.link.notices, tx := .notice f.encode,
      replies := s.link.replies.map fun r => { r with waits := if r.waits = 0 then 0 else r.waits + 1 } }
  | none => s

end Sys2Proof.Machine
end

