-- ==== Sys2Proof/Machine/LinkRequests.lean ====
section
/-! DEFINITION. The answers of the link unit to its own requests: IDENT, STATUS, RESET, SET_LINK, NOTICE_ENABLE and unknown
types (R174, R178, R180 to R183). -/

namespace Sys2Proof.Machine

open Sys2Proof

/-- A payload whose length the catalogue does not give is answered BAD_LENGTH (R174). -/
def lengthIs (n : Nat) (p : List Byte) (k : Ans) (s : State) : Ans := if p.length = n then k else refuse .badLength s

/-- UNKNOWN_TYPE (R174). -/
def answerUnknown (s : State) : Ans := refuse .unknownType s

/-- IDENT (R182). -/
def answerIdent (p : List Byte) (s : State) : Ans :=
  lengthIs 0 p (report ([byte Config.vendorCode] ++ le16 Config.partCode ++ [byte Config.revision, 40, 24, 8, 12, 6]
    ++ le16 Config.stepCount ++ [byte Config.demandQueueSize, 24]) s) s

/-- The data of the STATUS reply (R183). -/
def statusData (s : State) : List Byte :=
  [s.gallery.mode.code, s.statusFlags, s.safety.supply.state.code] ++ le16 s.safety.supply.latest
    ++ (groupIds.map fun g => (s.group g).state.code) ++ le32 s.now.toNat
    ++ [byte s.link.enables.toNat, byte s.link.notices.length]

/-- STATUS: the notices-lost flag is cleared after it has been read (R183). -/
def answerStatus (p : List Byte) (s : State) : Ans :=
  lengthIs 0 p (report (statusData s) (s.setLink { s.link with noticesLost := false })) s

/-- RESET: the handler takes no further frame; the reset comes when the reply has been sent (R181). -/
def answerReset (p : List Byte) (s : State) : Ans :=
  lengthIs 0 p { state := s.setLink { s.link with resetting := true }, status := .ok, effect := .reset } s

/-- SET_LINK: rate and gap take effect when the reply has been sent (R180). -/
def answerSetLink (p : List Byte) (s : State) : Ans :=
  lengthIs 2 p
    (if u8 p 0 ≤ 6 && 2 ≤ u8 p 1 && u8 p 1 ≤ 100 then
      { state := s, status := .ok, effect := .setLink (u8 p 0) (u8 p 1) }
    else refuse .badValue s) s

/-- NOTICE_ENABLE (R178). -/
def answerNoticeEnable (p : List Byte) (s : State) : Ans :=
  lengthIs 1 p
    (if u8 p 0 < 128 then accept (s.setLink { s.link with enables := BitVec.ofNat 7 (u8 p 0) })
    else refuse .badValue s) s

end Sys2Proof.Machine
end

