-- ==== Sys2Proof/Machine/Operands.lean ====
section
/-! DEFINITION. The operands of requests: payload bytes read into configuration records, refused when a field lies outside its
range (R7, R23, R44, R80, R113, R132, R147, R157, R174), and records laid out again for the query replies. -/

namespace Sys2Proof.Machine

open Sys2Proof

/-- A value within `lo..hi`. -/
def inRange (lo hi v : Nat) : Bool := lo ≤ v && v ≤ hi
def inRangeInt (lo hi v : Int) : Bool := lo ≤ v && v ≤ hi

/-- A byte carrying one flag takes 0 or 1 (R174). -/
def flag? (v : Nat) : Option Bool := if v = 0 then some false else if v = 1 then some true else none

/-- Ends of positions (05, the axis record). -/
def posLimit : Int := 8000000

/-! ### CFG_GALLERY (13 bytes) -/

def pwmRates : List Nat := [16, 20, 25, 32]

def parseGallery (p : List Byte) : Option GalleryCfg :=
  let starve := u16 p 1
  let esc := u16 p 3
  if u8 p 0 ≤ 250 && (starve = 0 || inRange 5 600 starve) && (esc = 0 || inRange 10 3600 esc)
      && inRange 10 300 (u16 p 5) && pwmRates.contains (u8 p 7) && inRange 1 16 (u8 p 8)
      && (zoneIds.all fun z => u8 p (9 + z.val) ≤ 15) then
    some { capacity := u8 p 0, starve := starve, escalation := esc, chimeRepeat := u16 p 5, pwmKhz := u8 p 7,
           deadTime := u8 p 8, volumes := Vector.ofFn fun z => u8 p (9 + z.val) }
  else none

def layoutGallery (c : GalleryCfg) : List Byte :=
  [byte c.capacity] ++ le16 c.starve ++ le16 c.escalation ++ le16 c.chimeRepeat ++ [byte c.pwmKhz, byte c.deadTime]
    ++ c.volumes.toList.map byte

/-! ### CFG_STATION (24 bytes) -/

/-- A lamp line byte, or 0xFF for none; the outer `none` is a byte out of range. -/
def lampOpt? (v : Nat) : Option (Option LampId) :=
  if v = 0xFF then some none else (toFin? 24 v).map some

/-- Lamp line bytes as a list: the lines before the first none, with no line after a none (R7). -/
def lampGroup? : List Byte → Option (List LampId)
  | [] => some []
  | b :: bs =>
    if b = 0xFF then (if bs.all fun c => c = 0xFF then some [] else none)
    else match toFin? 24 b.toNat, lampGroup? bs with
      | some i, some l => some (i :: l)
      | _, _ => none

/-- The base aligned down to a multiple of the window size of a usable window (R60). -/
def alignBase (base sizeCode : Nat) : Nat :=
  if 3 ≤ sizeCode && sizeCode ≤ 8 then base / 2 ^ sizeCode * 2 ^ sizeCode else base

def parseStation (p : List Byte) : Option StationRec :=
  match flag? (u8 p 1), toFin? 4 (u8 p 2), lampOpt? (u8 p 14), lampOpt? (u8 p 15), lampGroup? ((p.drop 16).take 8) with
  | some en, some z, some ready, some wait, some group =>
    if u16 p 4 ≤ 1023 && u16 p 7 ≤ 60000 && (u8 p 9 = 0 || inRange 2 31 (u8 p 9)) && inRange 100 5000 (u16 p 10)
        && inRange 1 600 (u16 p 12) then
      some { enabled := en, zone := z, axes := p.getD 3 0, windowBase := alignBase (u16 p 4) (u8 p 6),
             sizeCode := u8 p 6, cooldown := u16 p 7, tripLevel := u8 p 9, leak := u16 p 10, rest := u16 p 12,
             ready := ready, wait := wait, group := group }
    else none
  | _, _, _, _, _ => none

/-- No lamp line appears twice in a record (R7). -/
def StationRec.lampsDistinct (r : StationRec) : Bool := decide r.lampLines.Nodup

/-- A lamp line of the record is held by the stored record of another station (R7). -/
def State.lampsTaken (s : State) (st : StationId) (r : StationRec) : Bool :=
  stationIds.any fun o => o ≠ st && (s.station o).cfg.lampLines.any fun l => r.lampLines.contains l

def layoutStation (st : StationId) (r : StationRec) : List Byte :=
  [byte st.val, byte (flagBit r.enabled 0), byte r.zone.val, r.axes] ++ le16 r.windowBase ++ [byte r.sizeCode]
    ++ le16 r.cooldown ++ [byte r.tripLevel] ++ le16 r.leak ++ le16 r.rest
    ++ [optByte (r.ready.map fun l => l.val), optByte (r.wait.map fun l => l.val)]
    ++ (r.group.map fun l => byte l.val) ++ List.replicate (8 - r.group.length) 0xFF

/-! ### CFG_LINE (7 bytes) -/

/-- A role byte with its target byte; a target that does not suit the role is refused (R23). -/
def lineRole? (role target : Nat) : Option LineRole :=
  match role with
  | 0 => if target = 0xFF then some .unused else none
  | 1 => (toFin? 12 target).map .demand
  | 2 => (toFin? 6 target).map .guard
  | 3 => if target = 0xFF then some .key else none
  | 4 => (toFin? 8 target).map .home
  | 5 => if target = 0xFF then some .spare else none
  | _ => none

def parseLine (p : List Byte) : Option LineCfg :=
  match lineRole? (u8 p 1) (u8 p 6), flag? (u8 p 2), toFin? 4 (u8 p 5) with
  | some role, some low, some z =>
    if inRange 5 100 (u8 p 3) && (u8 p 4 = 0 || inRange 2 120 (u8 p 4)) then
      some { role := role, activeLow := low, debounce := u8 p 3, stuckLimit := u8 p 4, zone := z }
    else none
  | _, _, _ => none

/-- Another line's stored record is already HOME with the same target axis (R23). -/
def State.homeTaken (s : State) (l : LineId) (role : LineRole) : Bool := match role with
  | .home a => lineIds.any fun o => o ≠ l && (s.line o).cfg.role = .home a
  | _ => false

/-- The request would change a safety setting of a line: the role of a line that is or would become GUARD, or the polarity or
the target group of a GUARD line (R22, R23). -/
def LineCfg.changesSafety (old new : LineCfg) : Bool :=
  match old.role, new.role with
  | .guard g, .guard h => g ≠ h || old.activeLow != new.activeLow
  | .guard _, _ => true
  | _, .guard _ => true
  | _, _ => false

/-! ### CFG_AXIS (38 bytes) -/

def parseAxis (p : List Byte) : Option AxisRec :=
  let flags := p.getD 1 0
  let softMin := i32 p 11
  let softMax := i32 p 15
  let vmax := u16 p 3
  let park := i32 p 29
  match toFin? 6 (u8 p 33) with
  | some g =>
    if flags.toNat < 16 && inRange 1 60 (u8 p 2) && inRange 1 32767 vmax && inRange 1 4095 (u16 p 5) && u16 p 5 ≤ vmax
        && inRange 1 4095 (u16 p 7) && inRange 10 2000 (u16 p 9) && inRangeInt (-posLimit) posLimit softMin
        && inRangeInt (-posLimit) posLimit softMax && softMin ≤ softMax && inRangeInt (-posLimit) posLimit (i32 p 19)
        && inRange 1 vmax (u16 p 23) && inRange 1 16000000 (u32 p 25)
        && (!hasBit flags 3 || inRangeInt softMin softMax park) && u16 p 36 ≤ 1000 then
      some { enabled := hasBit flags 0, ratedDraw := u8 p 2, vmax := vmax, acc := u16 p 5, feLimit := u16 p 7,
             feTime := u16 p 9, softMin := softMin, softMax := softMax, homePositive := hasBit flags 1,
             homePos := i32 p 19, homingSpeed := u16 p 23, travel := u32 p 25,
             park := if hasBit flags 3 then some park else none, group := g, kp := u8 p 34, kf := u8 p 35,
             dutymax := u16 p 36, encInvert := hasBit flags 2 }
    else none
  | none => none

/-- The request would change a safety setting of an axis (R22, R80). -/
def AxisRec.changesSafety (old new : AxisRec) : Bool :=
  old.group ≠ new.group || old.ratedDraw ≠ new.ratedDraw || old.dutymax ≠ new.dutymax || old.softMin ≠ new.softMin
    || old.softMax ≠ new.softMax

def layoutAxis (a : AxisId) (r : AxisRec) : List Byte :=
  [byte a.val,
   byte (flagBit r.enabled 0 + flagBit r.homePositive 1 + flagBit r.encInvert 2 + flagBit r.park.isSome 3),
   byte r.ratedDraw] ++ le16 r.vmax ++ le16 r.acc ++ le16 r.feLimit ++ le16 r.feTime ++ le32i r.softMin
    ++ le32i r.softMax ++ le32i r.homePos ++ le16 r.homingSpeed ++ le32 r.travel ++ le32i (r.park.getD 0)
    ++ [byte r.group.val, byte r.kp, byte r.kf] ++ le16 r.dutymax

/-! ### CFG_SUPPLY (9 bytes) -/

def parseSupply (p : List Byte) : Option SupplyCfg :=
  let w := u16 p 0
  let t := u16 p 2
  let h := u8 p 4
  if w ≤ 1023 && t ≤ w && h ≤ 63 && inRange 1 64 (u8 p 5) && inRange 1 8 (u8 p 6) && inRange 200 10000 (u16 p 7)
      && (w = 0 || w + h ≤ 1023) then
    some { warn := w, trip := t, hyst := h, warnConfirm := u8 p 5, tripConfirm := u8 p 6, recovery := u16 p 7 }
  else none

/-! ### LAMP_SET and AXIS_MOVE -/

/-- Pairs of a lamp line and a state (R144). -/
def lampPairs? : List Byte → Option (List (LampId × LampState))
  | [] => some []
  | l :: v :: rest => match toFin? 24 l.toNat, lampState? v.toNat, lampPairs? rest with
    | some i, some x, some t => some ((i, x) :: t)
    | _, _, _ => none
  | [_] => none

/-- The list of a LAMP_SET: 1..24 pairs, as many as counted, no line twice (R144). -/
def parseLamps (p : List Byte) : Option (List (LampId × LampState)) :=
  match lampPairs? (p.drop 1) with
  | some l => if inRange 1 24 l.length && u8 p 0 = l.length && decide (l.map (fun m => m.1)).Nodup then some l else none
  | none => none

/-- Axis, value and RELATIVE flag of AXIS_MOVE (R102). -/
def parseMove (p : List Byte) : Option (AxisId × Int × Bool) :=
  match toFin? 8 (u8 p 0), flag? (u8 p 5) with
  | some a, some rel => if inRangeInt (-16000000) 16000000 (i32 p 1) then some (a, i32 p 1, rel) else none
  | _, _ => none

/-- Zone, pitch, amplitude and duration of TONE (R148). -/
def parseTone (p : List Byte) : Option (ZoneId × Nat × Nat × Nat) :=
  match toFin? 4 (u8 p 0) with
  | some z =>
    if inRange 16 4000 (u16 p 1) && u8 p 3 ≤ 15 && inRange 1 65535 (u16 p 4) then some (z, u16 p 1, u8 p 3, u16 p 4)
    else none
  | none => none

end Sys2Proof.Machine
end

