-- ==== Sys2Proof/Machine/ConfigRequests.lean ====
section
/-! DEFINITION. The answers to the configuration requests (R7, R22 to R24, R44, R58, R59, R80, R81, R84, R113, R121, R126,
R132, R140, R147, R157). -/

namespace Sys2Proof.Machine

open Sys2Proof

/-- Configuration requests are accepted in CLOSED only (R1). -/
def inClosed (s : State) (k : Ans) : Ans := if s.gallery.mode = .closed then k else refuse .wrongMode s

/-! ### CFG_GALLERY -/

/-- The fields stored, deadlines and effective amplitudes set anew where their settings changed (R44, R147, R157). -/
def configureGallery (c : GalleryCfg) (s : State) : State :=
  let t := s.setGallery { s.gallery with cfg := c }
  let t := if c.escalation = s.gallery.cfg.escalation then t else resetDeadlines t
  recomputeVolumes t

def answerCfgGallery (p : List Byte) (s : State) : Ans :=
  lengthIs 13 p (inClosed s (match parseGallery p with
    | none => refuse .badValue s
    | some c =>
      if s.gallery.safetyFixed && c.capacity ≠ s.gallery.cfg.capacity then refuse .fixed s
      else if c.capacity < s.admission.claimed then refuse .busy s
      else accept (configureGallery c s))) s

/-! ### CFG_STATION -/

/-- The record stored, the lines of the old and the new record turned OFF, and the station started over (R7, R140). -/
def configureStation (st : StationId) (r : StationRec) (s : State) : State :=
  let x := s.station st
  let t := lampsOff r.lampLines (lampsOff x.cfg.lampLines s)
  changeState st (if r.enabled then .standby else .unconfigured) none
    (t.setStation st { x with cfg := r, tally := 0, restOwed := false, cooldownAt := none, restAt := none,
                              leakAt := none, flashAt := none })

def answerCfgStation (p : List Byte) (s : State) : Ans :=
  lengthIs 24 p (inClosed s (match toFin? 12 (u8 p 0), parseStation p with
    | some st, some r =>
      if r.lampsDistinct && !s.lampsTaken st r then accept (configureStation st r s) else refuse .badValue s
    | _, _ => refuse .badValue s)) s

/-! ### CFG_LINE -/

/-- An axis without a home line stands calibrated at 0 clamped into its soft limits: IDLE and homed (R81, R84). -/
def Axis.placeAtZero (x : Axis) (raw : Int) : Axis :=
  let zero := x.cfg.clampSoft 0
  { x with state := .idle, homed := true, offset := zero - raw, cmd := zero * 256, target := none }

/-- An axis loses its home line (R84). An unhomed axis in a maintenance move goes on, and ends UNHOMED without a home line
(log 38); a HOMING axis at velocity 0 fails at the next profile interval (log 36). -/
def loseHomeLine (a : AxisId) (s : State) : State :=
  let x := s.axis a
  match x.state with
  | .unhomed =>
    let t := s.setAxis a (x.placeAtZero (s.bridge a).raw)
    reportHealth a x.healthy (if x.braked then t else markPass t)
  | .homing => s.setAxis a { x with target := none, stopReq := some .discard, homingLost := true }
  | .unconfigured | .idle | .moving | .stopping | .faulted => s

/-- The axis a line is the home line of. -/
def LineRole.homeAxis : LineRole → Option AxisId
  | .home a => some a
  | _ => none

/-- What leaves with the old configuration of a line: the end of a stuck condition, and the restore of a GUARD line whose
debounced level was active (R24, R126). Its LINE_EVENT notices are the model's, and so are the role and zone of the old
configuration that each of them, UNSTUCK and RESTORE, carries: R36 does not say old or new (log 16, DESIGN CHOICE). They carry
the present time, since no sample recognises them (log 33). A line that another role left active, made GUARD and configured again before its first sample,
has delivered no break: R24's words give a restore, R125 and R126 none. DESIGN CHOICE: the RESTORE notice is sent, and the
group, whose broken set does not hold the line, stays as it is (log 46). -/
def leaveLine (l : LineId) (old : Line) (s : State) : State :=
  let tell e t := noticeLine l e old.cfg.role old.cfg.zone t.now t
  let t := if old.stuck then endAlert .inputStuck (.line l) (tell .unstuck s) else s
  match old.cfg.role with
  | .guard g => if old.debounced then restoreLine g l (tell .restore t) else t
  | .unused | .demand _ | .key | .home _ | .spare => t

/-- The line starts afresh in its new configuration (R24). -/
def configureLine (l : LineId) (c : LineCfg) (s : State) : State :=
  let x := s.line l
  let t := s.setLine l
    { cfg := c, raw := x.raw, debounced := x.debounced && !x.cfg.role.isGuard, fresh := true }
  let t := leaveLine l x t
  match x.cfg.role.homeAxis with
  | some a => if c.role = .home a then t else loseHomeLine a t
  | none => t

def answerCfgLine (p : List Byte) (s : State) : Ans :=
  lengthIs 7 p (inClosed s (match toFin? 40 (u8 p 0), parseLine p with
    | some l, some c =>
      if s.homeTaken l c.role then refuse .badValue s
      else if s.gallery.safetyFixed && (s.line l).cfg.changesSafety c then refuse .fixed s
      else accept (endEvent (configureLine l c s))
    | _, _ => refuse .badValue s)) s

/-! ### CFG_AXIS -/

/-- The ends of the fault conditions of an axis (R81, R103). R81 and R103 give no order: DESIGN CHOICE, AXIS_JAM, then
ENCODER_FAILED, then HOMING_FAILED, and the callers end ENCODER_SUSPECT after them (log 45). -/
def endFaultAlerts (a : AxisId) (s : State) : State :=
  endAlert .homingFailed (.axis a) (endAlert .encoderFailed (.axis a) (endAlert .axisJam (.axis a) s))

/-- The record of an axis restarted in a new configuration; `home`: it has a home line (R81). -/
def Axis.restart (x : Axis) (r : AxisRec) (home : Bool) (raw : Int) : Axis :=
  let y := { x with cfg := r, target := none, vel := 0, stopReq := none, phase := none, homingLost := false,
                    feTimer := none, faultKind := none }
  if !r.enabled then { y with state := .unconfigured, homed := false, offset := 0, cmd := 0 }
  else if home then { y with state := .unhomed, homed := false, cmd := (raw + x.offset) * 256 }
  else y.placeAtZero raw

/-- An accepted CFG_AXIS (R81, R109, R115, R122). The end of ENCODER_SUSPECT follows the ends of the other fault alerts: DESIGN
CHOICE (log 45). -/
def configureAxis (a : AxisId) (r : AxisRec) (s : State) : State :=
  let x := s.axis a
  let t := s.setAxis a (x.restart r (s.homeLine a).isSome (s.bridge a).raw)
  let t := clearEncoderErrors a (endFaultAlerts a t)
  let t := if x.configured then t else t.setBridge a { t.bridge a with held := none }
  judgeBraked a (reportHealth a x.healthy (judgeBridge a t))

def answerCfgAxis (p : List Byte) (s : State) : Ans :=
  lengthIs 38 p (inClosed s (match toFin? 8 (u8 p 0), parseAxis p with
    | some a, some r =>
      if s.gallery.safetyFixed && (s.axis a).cfg.changesSafety r then refuse .fixed s
      else if (s.axis a).owner ≠ .none then refuse .busy s
      else accept (endEvent (configureAxis a r s))
    | _, _ => refuse .badValue s)) s

/-! ### CFG_GUARD and CFG_SUPPLY -/

def answerCfgGuard (p : List Byte) (s : State) : Ans :=
  lengthIs 2 p (inClosed s (match toFin? 6 (u8 p 0), toFin? 4 (u8 p 1) with
    | some g, some z =>
      if s.gallery.safetyFixed && (s.group g).zone ≠ z then refuse .fixed s
      else accept (s.setGroup g { s.group g with zone := z })
    | _, _ => refuse .badValue s)) s

/-- The settings stored, both counts 0, a running recovery timer restarted (R132). -/
def configureSupply (c : SupplyCfg) (s : State) : State :=
  let u := s.safety.supply
  s.setSupply { u with cfg := c, warnCount := 0, tripCount := 0,
                       recoveryAt := u.recoveryAt.map fun _ => s.after c.recovery }

def answerCfgSupply (p : List Byte) (s : State) : Ans :=
  lengthIs 9 p (inClosed s (match parseSupply p with
    | none => refuse .badValue s
    | some c =>
      if s.gallery.safetyFixed && c ≠ s.safety.supply.cfg then refuse .fixed s
      else accept (configureSupply c s))) s

/-! ### STEP_WRITE and STEP_READ -/

/-- A step lies inside the usable window of a station that is RUNNING, PAUSED or STOPPING (R59). -/
def State.stepBusy (s : State) (i : Nat) : Bool :=
  stationIds.any fun st =>
    let x := s.station st
    x.state.active && x.cfg.usable && x.cfg.windowBase ≤ i && i < x.cfg.windowBase + x.cfg.windowSize

/-- A first step and a count of 1..4 inside the store. -/
def stepRange (first count : Nat) : Bool :=
  first ≤ 1023 && inRange 1 4 count && first + count ≤ Config.stepCount

def writeSteps (first : Nat) (bytes : List Byte) (s : State) : State :=
  { s with store := Memory.writeAll s.store (Config.stepBytes * first) bytes }

/-- The payload lengths of STEP_WRITE in the catalogue. -/
def stepWriteLengths : List Nat := [15, 27, 39, 51]

def answerStepWrite (p : List Byte) (s : State) : Ans :=
  let first := u16 p 0
  let count := u8 p 2
  if stepWriteLengths.contains p.length then
    if stepRange first count && p.length = 3 + Config.stepBytes * count then
      if (List.range count).any fun k => s.stepBusy (first + k) then refuse .wrongState s
      else accept (writeSteps first (p.drop 3) s)
    else refuse .badValue s
  else refuse .badLength s

def answerStepRead (p : List Byte) (s : State) : Ans :=
  lengthIs 3 p
    (if stepRange (u16 p 0) (u8 p 2) then
      report ((List.range (u8 p 2)).flatMap fun k => s.stepRecord (u16 p 0 + k)) s
    else refuse .badValue s) s

end Sys2Proof.Machine
end

