-- ==== Sys2Proof/Machine/OperateRequests.lean ====
section
/-! DEFINITION. The answers to the operation requests: OPEN, CLOSE, PLAY, CANCEL, HOLD, RELEASE, STOP, REARM, AXIS_MOVE,
AXIS_HOME, AXIS_CLEAR, LAMP_SET, TONE (R2, R4, R5, R12, R13, R57, R75 to R77, R97, R102, R103, R130, R144, R148). -/

namespace Sys2Proof.Machine

open Sys2Proof

/-! ### OPEN and CLOSE -/

/-- The axes that OPEN homes: configured, UNHOMED, with a home line, their guard group CLEAR, within the capacity (R2, R3, R55). -/
def State.toHome (s : State) (a : AxisId) : Bool :=
  let x := s.axis a
  x.state = .unhomed && (s.homeLine a).isSome && (s.group x.cfg.group).state = .clear
    && x.cfg.ratedDraw ≤ s.gallery.cfg.capacity

/-- An accepted OPEN (R2). -/
def openGallery (s : State) : State :=
  let t := armZone .all (s.setGallery { s.gallery with safetyFixed := true })
  let t := setMode .opening t
  endEvent (markScan (t.setAdmission { t.admission with homingWait := setOf t.toHome }))

def answerOpen (p : List Byte) (s : State) : Ans :=
  lengthIs 0 p (inClosed s
    (if s.supplyDown then refuse .supply s
     else if s.galleryOwns then refuse .busy s
     else accept (openGallery s))) s

/-- CLOSE in OPEN: the queue emptied, PAUSED shows aborted, the gallery draining (R4). R4 has the changes of the QUEUED stations
and the aborts of the PAUSED ones at one event and gives no order between them: DESIGN CHOICE, every QUEUED station first, then
every PAUSED one, each in ascending index (log 43). -/
def closeFromOpen (s : State) : State :=
  let t := setMode .closing (s.setGallery { s.gallery with closing := .draining })
  let t := t.setAdmission { t.admission with queue := [] }
  let t := forEach stationIds (fun st u => if (u.station st).state = .queued then enterReady st u else u) t
  forEach stationIds (fun st u => if (u.station st).state = .paused then abortStation st .controlled 0 u else u) t

/-- CLOSE in OPENING: HOMING axes stopped, waiting homings abandoned (R5). -/
def closeFromOpening (s : State) : State :=
  let t := setMode .closing (s.setGallery { s.gallery with closing := .stoppingHoming })
  let t := t.setAdmission { t.admission with homingWait := 0 }
  forEach axisIds (fun a u => if (u.axis a).state = .homing then stopAxis .discard a u else u) t

def answerClose (p : List Byte) (s : State) : Ans :=
  lengthIs 0 p (match s.gallery.mode with
    | .openMode => accept (endEvent (closeFromOpen s))
    | .opening => accept (endEvent (closeFromOpening s))
    | .closing => accept s
    | .closed => refuse .wrongMode s) s

/-! ### PLAY and CANCEL -/

/-- PLAY by the station's state (R13). -/
def playStation (st : StationId) (s : State) : Ans :=
  match (s.station st).state with
  | .ready => match makeEntry st .host s with
    | some t => accept (endEvent t)
    | none => refuse .full s
  | .queued => accept (mapEntry st (fun e => { e with source := .host }) s)
  | .resting => match makeEntry st .host (s.setStation st { s.station st with restAt := none }) with
    | some t => accept (endEvent t)
    | none => refuse .full s
  | .unconfigured | .standby | .running | .paused | .stopping | .cooldown | .halted | .outOfService =>
    refuse .wrongState s

def answerPlay (p : List Byte) (s : State) : Ans :=
  lengthIs 1 p (match toFin? 12 (u8 p 0) with
    | none => refuse .badValue s
    | some st =>
      if s.gallery.mode ≠ .openMode then refuse .wrongMode s
      else if (s.station st).state = .unconfigured || !(s.station st).cfg.usable then refuse .notConfigured s
      else playStation st s) s

def answerCancel (p : List Byte) (s : State) : Ans :=
  lengthIs 1 p (match toFin? 12 (u8 p 0) with
    | none => refuse .badValue s
    | some st =>
      if (s.station st).state = .queued then accept (endEvent (enterReady st (removeEntry st s)))
      else refuse .wrongState s) s

/-! ### HOLD, RELEASE and STOP -/

def answerHold (p : List Byte) (s : State) : Ans :=
  lengthIs 1 p (match toFin? 12 (u8 p 0) with
    | none => refuse .badValue s
    | some st =>
      if s.gallery.mode ≠ .openMode then refuse .wrongMode s
      else if (s.station st).state = .running then accept (endEvent (changeState st .paused none (holdPlayer st s)))
      else refuse .wrongState s) s

/-- An accepted RELEASE: the axes resume, the station is RUNNING, the wait resumes (R76). -/
def releaseHold (st : StationId) (s : State) : State :=
  let t := s.setPlayer st { (s.station st).player with state := .playing }
  resumePlayer st (changeState st .running none (forEach (t.owned st) resumeAxis t))

def answerRelease (p : List Byte) (s : State) : Ans :=
  lengthIs 1 p (match toFin? 12 (u8 p 0) with
    | none => refuse .badValue s
    | some st =>
      if (s.station st).state = .paused then accept (endEvent (releaseHold st s)) else refuse .wrongState s) s

def answerStop (p : List Byte) (s : State) : Ans :=
  lengthIs 1 p (match toFin? 12 (u8 p 0) with
    | none => refuse .badValue s
    | some st =>
      if (s.station st).state = .running || (s.station st).state = .paused then
        accept (endEvent (abortStation st .controlled 0 s))
      else refuse .wrongState s) s

/-! ### REARM -/

def answerRearm (p : List Byte) (s : State) : Ans :=
  lengthIs 1 p (match zoneSel? (u8 p 0) with
    | none => refuse .badValue s
    | some z =>
      let t := armZone z s
      { state := endEvent t, status := if t.brokenIn z then .guardBroken else .ok }) s

/-! ### AXIS_MOVE, AXIS_HOME and AXIS_CLEAR -/

/-- The axis stands unowned, not braked, IDLE or UNHOMED. -/
def Axis.available (x : Axis) : Bool := (x.state = .idle || x.state = .unhomed) && x.owner = .none && !x.braked

/-- A maintenance move begins; one that stands at its target ends at the event of the request (R102). -/
def beginMove (a : AxisId) (v : Int) (relative : Bool) (s : State) : State :=
  let t := grantAxis .gallery a s
  let t := giveClampedTarget a (if relative then (t.axis a).cmdCounts + v else v) t
  if (t.axis a).atRest then reportRest a t else t

def answerAxisMove (p : List Byte) (s : State) : Ans :=
  lengthIs 6 p (inClosed s (match parseMove p with
    | none => refuse .badValue s
    | some (a, v, relative) =>
      let x := s.axis a
      if !x.available || (x.state = .unhomed && !relative) then refuse .wrongState s
      else if s.freeBudget < x.cfg.ratedDraw then refuse .busy s
      else accept (endEvent (beginMove a v relative s)))) s

def answerAxisHome (p : List Byte) (s : State) : Ans :=
  lengthIs 1 p (inClosed s (match toFin? 8 (u8 p 0) with
    | none => refuse .badValue s
    | some a =>
      let x := s.axis a
      if !x.available || (s.homeLine a).isNone then refuse .wrongState s
      else if s.freeBudget < x.cfg.ratedDraw then refuse .busy s
      else accept (endEvent (beginHoming a (grantAxis .gallery a s))))) s

/-- The record of a FAULTED axis after AXIS_CLEAR; `home`: it has a home line (R103's table). -/
def Axis.cleared (x : Axis) (home : Bool) (raw : Int) : Axis :=
  let y := { x.eStop (raw + x.offset) with faultKind := none }
  if x.homed then { y with state := .idle }
  else if home then { y with state := .unhomed }
  else y.placeAtZero raw

/-- An accepted AXIS_CLEAR (R103). The end of ENCODER_SUSPECT follows the ends of the other fault alerts: DESIGN CHOICE
(log 45). -/
def clearAxis (a : AxisId) (s : State) : State :=
  let x := s.axis a
  let t := s.setAxis a (x.cleared (s.homeLine a).isSome (s.bridge a).raw)
  let t := judgeBridge a (clearEncoderErrors a (endFaultAlerts a t))
  let t := reportHealth a x.healthy t
  if (t.axis a).state = .idle && !(t.axis a).braked then markPass t else t

def answerAxisClear (p : List Byte) (s : State) : Ans :=
  lengthIs 1 p (match toFin? 8 (u8 p 0) with
    | none => refuse .badValue s
    | some a =>
      if (s.axis a).state = .faulted then accept (endEvent (clearAxis a s)) else refuse .wrongState s) s

/-! ### LAMP_SET and TONE -/

/-- The payload lengths of LAMP_SET in the catalogue: 1 + 2n with n in 0..29. -/
def lampSetLength (n : Nat) : Bool := n % 2 = 1 && n ≤ 59

def answerLampSet (p : List Byte) (s : State) : Ans :=
  if lampSetLength p.length then
    match parseLamps p with
    | none => refuse .badValue s
    | some l =>
      if l.any fun m => s.lampBusy m.1 then refuse .wrongState s
      else accept (forEach l (fun m t => t.setLamp m.1 m.2) s)
  else refuse .badLength s

def answerTone (p : List Byte) (s : State) : Ans :=
  lengthIs 6 p (match parseTone p with
    | none => refuse .badValue s
    | some (z, pitch, amplitude, duration) => accept (playTone z pitch amplitude duration s)) s

end Sys2Proof.Machine
end

