-- ==== Sys2Proof/Machine/QueryRequests.lean ====
section
/-! DEFINITION. The answers to the queries (R8, R37, R38, R43, R44, R104, R168) and to the alert requests (R158, R162 to
R166). -/

namespace Sys2Proof.Machine

open Sys2Proof

/-! ### QUERY_STATION and QUERY_AXIS -/

/-- Milliseconds remaining of a running cooldown or rest timer, 0 when none runs (R8). -/
def State.waitLeft (s : State) (x : Station) : Nat := match x.cooldownAt, x.restAt with
  | some d, _ => s.msLeft d
  | none, some d => s.msLeft d
  | none, none => 0

def stationData (st : StationId) (s : State) : List Byte :=
  let x := s.station st
  layoutStation st x.cfg ++ [x.state.code, byte x.tally, byte (flagBit x.restOwed 0), causeCode x.cause]
    ++ le32 (s.waitLeft x) ++ [x.player.state.code, byte x.player.current, showFaultCode x.player.lastFault]

def answerQueryStation (p : List Byte) (s : State) : Ans :=
  lengthIs 1 p (match toFin? 12 (u8 p 0) with
    | none => refuse .badValue s
    | some st => report (stationData st s) s) s

/-- Part STATE of QUERY_AXIS (R104). -/
def axisData (a : AxisId) (s : State) : List Byte :=
  let x := s.axis a
  let b := s.bridge a
  [byte a.val, x.state.code, x.owner.code, x.flags, faultCode x.faultKind, phaseCode x.phase, stopReqCode x.stopReq]
    ++ le32i x.offset ++ le32i x.cmdCounts ++ [byte (x.cmd % 256).toNat] ++ le32i (s.encPos a)
    ++ le32i (x.target.getD 0) ++ le16 x.vel ++ [byte x.override]
    ++ le16i (followingError x.cmdCounts (s.encPos a)) ++ le16 (x.feTimer.getD 0) ++ le16i b.loaded ++ [byte b.err]

def answerQueryAxis (p : List Byte) (s : State) : Ans :=
  lengthIs 2 p (match toFin? 8 (u8 p 0) with
    | none => refuse .badValue s
    | some a =>
      if u8 p 1 = 0 then report (layoutAxis a (s.axis a).cfg) s
      else if u8 p 1 = 1 then report (axisData a s) s
      else refuse .badValue s) s

/-! ### QUERY_QUEUE -/

/-- A place record (Messages on the Host Link, QUERY_QUEUE reply). -/
def placeRecord (s : State) : Option Entry → List Byte
  | none => 0xFF :: List.replicate 10 0
  | some e => [byte e.station.val, byte (flagBit e.source.isHost 0 + flagBit e.senior 1), byte e.presses]
      ++ le32 e.arrival.toNat ++ le32 (s.entryAge e)

def queueData (first count : Nat) (s : State) : List Byte :=
  [byte s.admission.queue.length]
    ++ ((List.range count).flatMap fun k => placeRecord s s.admission.queue[first + k]?)
    ++ [byte (flagBit s.admission.hold 0), byte s.gallery.cfg.capacity, byte s.admission.claimed, byte s.freeBudget]
    ++ le16 s.gallery.cfg.starve ++ (axisIds.map fun a => (s.axis a).owner.code)

def answerQueryQueue (p : List Byte) (s : State) : Ans :=
  lengthIs 2 p
    (if u8 p 0 ≤ 7 && inRange 1 4 (u8 p 1) && u8 p 0 + u8 p 1 ≤ 8 then report (queueData (u8 p 0) (u8 p 1) s) s
     else refuse .badValue s) s

/-! ### QUERY_LINES -/

/-- The lines of a range. -/
def linesOf (first count : Nat) : List LineId := lineIds.filter fun l => first ≤ l.val && l.val < first + count

def linesData (first count : Nat) (s : State) : List Byte :=
  ((linesOf first count).map fun l => (s.line l).flags) ++ s.lampBytes

/-- The take option clears the latched flags of the range (R38). -/
def takeFlags (first count : Nat) (s : State) : State :=
  forEach (linesOf first count) (fun l t => t.setLine l { t.line l with pressed := false, released := false }) s

def answerQueryLines (p : List Byte) (s : State) : Ans :=
  let first := u8 p 0
  let count := u8 p 1
  lengthIs 3 p
    (if first ≤ 39 && inRange 1 40 count && first + count ≤ 40 then
      match flag? (u8 p 2) with
      | some take => report (linesData first count s) (if take then takeFlags first count s else s)
      | none => refuse .badValue s
     else refuse .badValue s) s

/-! ### QUERY_ALERTS and QUERY_GALLERY -/

def alertsData (first count : Nat) (s : State) : List Byte :=
  ((slotIds.filter fun i => first ≤ i.val && i.val < first + count).flatMap fun i => match s.slot i with
    | some e => alertRecord (some i) e
    | none => emptyRecord i)
    ++ [byte s.alerts.entries, s.alertFlags, s.beaconByte]

def answerQueryAlerts (p : List Byte) (s : State) : Ans :=
  lengthIs 2 p
    (if u8 p 0 ≤ 23 && inRange 1 3 (u8 p 1) && u8 p 0 + u8 p 1 ≤ 24 then report (alertsData (u8 p 0) (u8 p 1) s) s
     else refuse .badValue s) s

def answerQueryGallery (p : List Byte) (s : State) : Ans :=
  lengthIs 0 p (report (layoutGallery s.gallery.cfg) s) s

/-! ### Alert requests -/

/-- ALERT_ACK: one slot, one zone or ALL (R158). -/
def answerAlertAck (p : List Byte) (s : State) : Ans :=
  lengthIs 2 p (match u8 p 0 with
    | 0 => match toFin? 24 (u8 p 1) with
      | none => refuse .badValue s
      | some i => if (s.slot i).isSome then accept (ackSlot i s) else refuse .wrongState s
    | 1 => match toFin? 4 (u8 p 1) with
      | none => refuse .badValue s
      | some z => accept (ackZone z s)
    | 2 => accept (ackAll s)
    | _ => refuse .badValue s) s

/-- ALERT_CALL (R166). -/
def answerAlertCall (p : List Byte) (s : State) : Ans :=
  lengthIs 3 p (match toFin? 16 (u8 p 0), severity? (u8 p 1), zoneSel? (u8 p 2) with
    | some i, some sev, some z =>
      { state := raiseAlert .hostCall (.host i) z sev s
        status := if s.wouldStore .hostCall (.host i) then .ok else .full }
    | _, _, _ => refuse .badValue s) s

/-- The mask bits and quiet that a payload carries: any non-zero byte sets its bit (R162, R174). -/
def maskBits (p : List Byte) : BitVec 4 :=
  zoneIds.foldl (fun v z => if u8 p z.val = 0 then v else addBit v z.val) 0

/-- Masks and quiet replaced, and the chime judged (R162 to R164). -/
def setMasks (masks : BitVec 4) (quiet : Bool) (s : State) : State :=
  let t := { s with alerts := { s.alerts with masks := masks, quiet := quiet } }
  let t := if AlertUnit.newlyEligible s.alerts t.alerts then playChime t else t
  let t := if quiet && !s.alerts.quiet then
      chimeSilence { t with alerts := { t.alerts with chimeRepeatAt := none } }
    else t
  judgeChime t

def answerAlertMask (p : List Byte) (s : State) : Ans :=
  lengthIs 5 p (accept (setMasks (maskBits p) (u8 p 4 ≠ 0) s)) s

/-- ALERT_CLEAR_OVERFLOW (R165). -/
def clearOverflow (s : State) : State :=
  if s.alerts.overflow then judgeChime { s with alerts := { s.alerts with overflow := false } } else s

def answerAlertClearOverflow (p : List Byte) (s : State) : Ans := lengthIs 0 p (accept (clearOverflow s)) s

end Sys2Proof.Machine
end

