-- ==== Sys2Proof/Machine/Requests.lean ====
section
/-! DEFINITION. The host requests: which answer each request code gets (R174, the request catalogue), and one meaning for each
request row of the table. A request row is the step of the request handler (log 6). -/

namespace Sys2Proof.Machine

open Sys2Proof

/-- The answer to a frame that the handler takes (R174). -/
def answer (f : Frame) (s : State) : Ans :=
  match f.type.toNat with
  | 0x01 => answerIdent f.payload s
  | 0x02 => answerStatus f.payload s
  | 0x03 => answerReset f.payload s
  | 0x04 => answerSetLink f.payload s
  | 0x05 => answerNoticeEnable f.payload s
  | 0x10 => answerCfgGallery f.payload s
  | 0x11 => answerCfgStation f.payload s
  | 0x12 => answerCfgLine f.payload s
  | 0x13 => answerCfgAxis f.payload s
  | 0x14 => answerCfgGuard f.payload s
  | 0x15 => answerCfgSupply f.payload s
  | 0x16 => answerStepWrite f.payload s
  | 0x17 => answerStepRead f.payload s
  | 0x20 => answerOpen f.payload s
  | 0x21 => answerClose f.payload s
  | 0x22 => answerPlay f.payload s
  | 0x23 => answerCancel f.payload s
  | 0x24 => answerHold f.payload s
  | 0x25 => answerRelease f.payload s
  | 0x26 => answerStop f.payload s
  | 0x27 => answerRearm f.payload s
  | 0x28 => answerAxisMove f.payload s
  | 0x29 => answerAxisHome f.payload s
  | 0x2A => answerAxisClear f.payload s
  | 0x2B => answerLampSet f.payload s
  | 0x2C => answerTone f.payload s
  | 0x30 => answerQueryStation f.payload s
  | 0x31 => answerQueryAxis f.payload s
  | 0x32 => answerQueryQueue f.payload s
  | 0x33 => answerQueryLines f.payload s
  | 0x34 => answerQueryAlerts f.payload s
  | 0x35 => answerQueryGallery f.payload s
  | 0x38 => answerAlertAck f.payload s
  | 0x39 => answerAlertCall f.payload s
  | 0x3A => answerAlertMask f.payload s
  | 0x3B => answerAlertClearOverflow f.payload s
  | _ => answerUnknown s

/-- A command is complete: an idle transmitter starts what has been queued (R176). -/
def complete (s : State) : Host.Outcome State Fault Refusal := .next (kickTx s)

/-- A request row: the request reaches the handler. -/
def request (type : Byte) (own : List Byte → State → Ans) (tag : Byte) (p : List Byte) (s : State) :
    Host.Outcome State Fault Refusal := complete (submit answer (own p) ⟨type, tag, p⟩ s)

/-- IDENT (R182). -/
def execIdent (tag : Byte) (p : List Byte) (s : State) : Host.Outcome State Fault Refusal :=
  request 0x01 answerIdent tag p s

/-- STATUS (R183). -/
def execStatus (tag : Byte) (p : List Byte) (s : State) : Host.Outcome State Fault Refusal :=
  request 0x02 answerStatus tag p s

/-- RESET (R181). -/
def execReset (tag : Byte) (p : List Byte) (s : State) : Host.Outcome State Fault Refusal :=
  request 0x03 answerReset tag p s

/-- SET_LINK (R180). -/
def execSetLink (tag : Byte) (p : List Byte) (s : State) : Host.Outcome State Fault Refusal :=
  request 0x04 answerSetLink tag p s

/-- NOTICE_ENABLE (R178). -/
def execNoticeEnable (tag : Byte) (p : List Byte) (s : State) : Host.Outcome State Fault Refusal :=
  request 0x05 answerNoticeEnable tag p s

/-- CFG_GALLERY (R44). -/
def execCfgGallery (tag : Byte) (p : List Byte) (s : State) : Host.Outcome State Fault Refusal :=
  request 0x10 answerCfgGallery tag p s

/-- CFG_STATION (R7). -/
def execCfgStation (tag : Byte) (p : List Byte) (s : State) : Host.Outcome State Fault Refusal :=
  request 0x11 answerCfgStation tag p s

/-- CFG_LINE (R23, R24). -/
def execCfgLine (tag : Byte) (p : List Byte) (s : State) : Host.Outcome State Fault Refusal :=
  request 0x12 answerCfgLine tag p s

/-- CFG_AXIS (R80, R81). -/
def execCfgAxis (tag : Byte) (p : List Byte) (s : State) : Host.Outcome State Fault Refusal :=
  request 0x13 answerCfgAxis tag p s

/-- CFG_GUARD (R121). -/
def execCfgGuard (tag : Byte) (p : List Byte) (s : State) : Host.Outcome State Fault Refusal :=
  request 0x14 answerCfgGuard tag p s

/-- CFG_SUPPLY (R132). -/
def execCfgSupply (tag : Byte) (p : List Byte) (s : State) : Host.Outcome State Fault Refusal :=
  request 0x15 answerCfgSupply tag p s

/-- STEP_WRITE (R59). -/
def execStepWrite (tag : Byte) (p : List Byte) (s : State) : Host.Outcome State Fault Refusal :=
  request 0x16 answerStepWrite tag p s

/-- STEP_READ (R58). -/
def execStepRead (tag : Byte) (p : List Byte) (s : State) : Host.Outcome State Fault Refusal :=
  request 0x17 answerStepRead tag p s

/-- OPEN (R2). -/
def execOpen (tag : Byte) (p : List Byte) (s : State) : Host.Outcome State Fault Refusal :=
  request 0x20 answerOpen tag p s

/-- CLOSE (R4, R5). -/
def execClose (tag : Byte) (p : List Byte) (s : State) : Host.Outcome State Fault Refusal :=
  request 0x21 answerClose tag p s

/-- PLAY (R13). -/
def execPlay (tag : Byte) (p : List Byte) (s : State) : Host.Outcome State Fault Refusal :=
  request 0x22 answerPlay tag p s

/-- CANCEL (R12). -/
def execCancel (tag : Byte) (p : List Byte) (s : State) : Host.Outcome State Fault Refusal :=
  request 0x23 answerCancel tag p s

/-- HOLD (R75). -/
def execHold (tag : Byte) (p : List Byte) (s : State) : Host.Outcome State Fault Refusal :=
  request 0x24 answerHold tag p s

/-- RELEASE (R76). -/
def execRelease (tag : Byte) (p : List Byte) (s : State) : Host.Outcome State Fault Refusal :=
  request 0x25 answerRelease tag p s

/-- STOP (R77). -/
def execStop (tag : Byte) (p : List Byte) (s : State) : Host.Outcome State Fault Refusal :=
  request 0x26 answerStop tag p s

/-- REARM (R130). -/
def execRearm (tag : Byte) (p : List Byte) (s : State) : Host.Outcome State Fault Refusal :=
  request 0x27 answerRearm tag p s

/-- AXIS_MOVE (R57, R102). -/
def execAxisMove (tag : Byte) (p : List Byte) (s : State) : Host.Outcome State Fault Refusal :=
  request 0x28 answerAxisMove tag p s

/-- AXIS_HOME (R57, R97). -/
def execAxisHome (tag : Byte) (p : List Byte) (s : State) : Host.Outcome State Fault Refusal :=
  request 0x29 answerAxisHome tag p s

/-- AXIS_CLEAR (R103). -/
def execAxisClear (tag : Byte) (p : List Byte) (s : State) : Host.Outcome State Fault Refusal :=
  request 0x2A answerAxisClear tag p s

/-- LAMP_SET (R144). -/
def execLampSet (tag : Byte) (p : List Byte) (s : State) : Host.Outcome State Fault Refusal :=
  request 0x2B answerLampSet tag p s

/-- TONE (R148). -/
def execTone (tag : Byte) (p : List Byte) (s : State) : Host.Outcome State Fault Refusal :=
  request 0x2C answerTone tag p s

/-- QUERY_STATION (R8). -/
def execQueryStation (tag : Byte) (p : List Byte) (s : State) : Host.Outcome State Fault Refusal :=
  request 0x30 answerQueryStation tag p s

/-- QUERY_AXIS (R104). -/
def execQueryAxis (tag : Byte) (p : List Byte) (s : State) : Host.Outcome State Fault Refusal :=
  request 0x31 answerQueryAxis tag p s

/-- QUERY_QUEUE (R43). -/
def execQueryQueue (tag : Byte) (p : List Byte) (s : State) : Host.Outcome State Fault Refusal :=
  request 0x32 answerQueryQueue tag p s

/-- QUERY_LINES (R37, R38). -/
def execQueryLines (tag : Byte) (p : List Byte) (s : State) : Host.Outcome State Fault Refusal :=
  request 0x33 answerQueryLines tag p s

/-- QUERY_ALERTS (R168). -/
def execQueryAlerts (tag : Byte) (p : List Byte) (s : State) : Host.Outcome State Fault Refusal :=
  request 0x34 answerQueryAlerts tag p s

/-- QUERY_GALLERY (R44). -/
def execQueryGallery (tag : Byte) (p : List Byte) (s : State) : Host.Outcome State Fault Refusal :=
  request 0x35 answerQueryGallery tag p s

/-- ALERT_ACK (R158). -/
def execAlertAck (tag : Byte) (p : List Byte) (s : State) : Host.Outcome State Fault Refusal :=
  request 0x38 answerAlertAck tag p s

/-- ALERT_CALL (R166). -/
def execAlertCall (tag : Byte) (p : List Byte) (s : State) : Host.Outcome State Fault Refusal :=
  request 0x39 answerAlertCall tag p s

/-- ALERT_MASK (R162). -/
def execAlertMask (tag : Byte) (p : List Byte) (s : State) : Host.Outcome State Fault Refusal :=
  request 0x3A answerAlertMask tag p s

/-- ALERT_CLEAR_OVERFLOW (R165). -/
def execAlertClearOverflow (tag : Byte) (p : List Byte) (s : State) : Host.Outcome State Fault Refusal :=
  request 0x3B answerAlertClearOverflow tag p s

/-- A frame whose TYPE is no request code (R174). -/
def execUnknownType (type tag : Byte) (p : List Byte) (s : State) : Host.Outcome State Fault Refusal :=
  request type (fun q => answer ⟨type, tag, q⟩) tag p s

end Sys2Proof.Machine
end

