-- ==== Sys2Proof/Machine/Events.lean ====
section
/-! DEFINITION. The events of the table that are no requests: one meaning for each row. An expiry row changes
nothing while its timer is stopped or has not been reached (log 2, log 3). -/

namespace Sys2Proof.Machine

open Sys2Proof

/-! ### Resets and the link -/

/-- RESET_PIN: every state takes its reset value. -/
def execResetPin (s : State) : Host.Outcome State Fault Refusal := complete (resetByPin s)

/-- STARTED: the notice of the first millisecond after a reset (R179). -/
def execStarted (s : State) : Host.Outcome State Fault Refusal := complete (sendStarted s)

/-- RX_BYTE (R171 to R173). -/
def execRxByte (b : Byte) (s : State) : Host.Outcome State Fault Refusal := complete (receiveByte answer b s)

/-- FRAMING_ERROR: a byte whose stop bit is missing is not stored (R171). -/
def execFramingError (s : State) : Host.Outcome State Fault Refusal := complete (interruption (restartGap s))

/-- LINK_BREAK (R169, R171). -/
def execLinkBreak (s : State) : Host.Outcome State Fault Refusal := complete (interruption s)

/-- The gap timer has run out: it is stopped, and an interruption is recorded (R171). -/
def gapExpiry (s : State) : State :=
  if s.runOut s.link.gapAt then interruption (s.setLink { s.link with gapAt := none }) else s

/-- GAP_EXPIRY. -/
def execGapExpiry (s : State) : Host.Outcome State Fault Refusal := complete (gapExpiry s)

/-- FRAME_SENT (R175, R176, R180, R181). -/
def execFrameSent (s : State) : Host.Outcome State Fault Refusal := complete (frameSent answer s)

/-! ### Input lines -/

/-- INPUT_SAMPLE (R25, R26, R30, R32). -/
def execInputSample (pins : LineSet) (s : State) : Host.Outcome State Fault Refusal := complete (inputSample pins s)

/-- LINE_DEBOUNCED (R26 to R29, R31, R35). -/
def execLineDebounced (l : LineId) (s : State) : Host.Outcome State Fault Refusal := complete (lineDebounced l s)

/-- STUCK_TIMER_EXPIRY (R34). -/
def execStuckTimerExpiry (l : LineId) (s : State) : Host.Outcome State Fault Refusal := complete (stuckExpiry l s)

/-! ### Stations, queue and players -/

/-- The tally leaks by one; the timer restarts while it is above 0 (R11). -/
def tallyLeak (st : StationId) (s : State) : State :=
  let x := s.station st
  if s.runOut x.leakAt then
    s.setStation st { x with tally := x.tally - 1, leakAt := if 1 < x.tally then some (s.after x.cfg.leak) else none }
  else s

/-- TALLY_LEAK_EXPIRY. -/
def execTallyLeakExpiry (st : StationId) (s : State) : Host.Outcome State Fault Refusal := complete (tallyLeak st s)

/-- The wait-flash timer stops, a render event (R142). -/
def flashExpiry (st : StationId) (s : State) : State :=
  if s.runOut (s.station st).flashAt then renderStation st (s.setStation st { s.station st with flashAt := none }) else s

/-- WAIT_FLASH_EXPIRY. -/
def execWaitFlashExpiry (st : StationId) (s : State) : Host.Outcome State Fault Refusal := complete (flashExpiry st s)

/-- The station leaves COOLDOWN for READY, or rests (R14). -/
def cooldownExpiry (st : StationId) (s : State) : State :=
  if (s.station st).state = .cooldown && s.runOut (s.station st).cooldownAt then endEvent (enterReady st s) else s

/-- COOLDOWN_EXPIRY. -/
def execCooldownExpiry (st : StationId) (s : State) : Host.Outcome State Fault Refusal := complete (cooldownExpiry st s)

/-- The rest is over: OUT_OF_SERVICE if an axis of the set is not healthy, READY otherwise (R15). -/
def restExpiry (st : StationId) (s : State) : State :=
  if (s.station st).state = .resting && s.runOut (s.station st).restAt then
    endEvent (if s.allHealthy st then enterReady st s else enterOutOfService st s)
  else s

/-- REST_EXPIRY. -/
def execRestExpiry (st : StationId) (s : State) : Host.Outcome State Fault Refusal := complete (restExpiry st s)

/-- The station's entry, the oldest below seniority, becomes senior once its age has reached the starve limit, and an
admission pass runs (R48, R50); before that the event cannot occur (log 2, log 3). -/
def becomeSenior (st : StationId) (s : State) : State :=
  match s.nextSenior with
  | some e =>
    if e.station = st && s.starved e then endEvent (markPass (mapEntry st (fun e => { e with senior := true }) s))
    else s
  | none => s

/-- ENTRY_BECOMES_SENIOR. -/
def execEntryBecomesSenior (st : StationId) (s : State) : Host.Outcome State Fault Refusal := complete (becomeSenior st s)

/-- The WAIT_TIME step completes and the player goes on (R66). -/
def waitExpiry (st : StationId) (s : State) : State :=
  let p := (s.station st).player
  if p.state = .playing && p.wait = .time && s.runOut p.deadline then endEvent (completeWait st s) else s

/-- WAIT_TIME_EXPIRY. -/
def execWaitTimeExpiry (st : StationId) (s : State) : Host.Outcome State Fault Refusal := complete (waitExpiry st s)

/-! ### Axes, encoders and bridges -/

/-- PROFILE_INTERVAL (R82, R86 to R95, R112). -/
def execProfileInterval (s : State) : Host.Outcome State Fault Refusal := complete (profileInterval s)

/-- FOLLOWING_ERROR_JAM (R95). -/
def execFollowingErrorJam (a : AxisId) (s : State) : Host.Outcome State Fault Refusal := complete (followingJam a s)

/-- ENCODER_TRANSITION (R114 to R119). -/
def execEncoderTransition (a : AxisId) (phaseA phaseB : Bool) (s : State) : Host.Outcome State Fault Refusal :=
  complete (encoderTransition a (phaseA, phaseB) s)

/-- PWM_PERIOD_START (R108, R110 to R113). -/
def execPwmPeriodStart (s : State) : Host.Outcome State Fault Refusal := complete (periodStart s)

/-- PWM_ON_TIME_END: the end of the on-time of an axis's bridge (R110). -/
def execPwmOnTimeEnd (a : AxisId) (s : State) : Host.Outcome State Fault Refusal :=
  complete (s.setBridge a (s.bridge a).onTimeEnd)

/-- DEAD_TIME_END: the dead time of a leg is over (R110, R111). -/
def execDeadTimeEnd (a : AxisId) (leg : LegId) (s : State) : Host.Outcome State Fault Refusal :=
  complete (s.setBridge a ((s.bridge a).deadEnd leg))

/-! ### The supply monitor -/

/-- SUPPLY_SAMPLE (R132 to R134, R137). -/
def execSupplySample (v : Fin 1024) (s : State) : Host.Outcome State Fault Refusal := complete (supplySample v.val s)

/-- WARN_CONFIRM (R133, R135). -/
def execWarnConfirm (s : State) : Host.Outcome State Fault Refusal := complete (warnConfirm s)

/-- TRIP_CONFIRM (R134, R136). -/
def execTripConfirm (s : State) : Host.Outcome State Fault Refusal := complete (tripConfirm s)

/-- RECOVERY_TIMER_EXPIRY (R134, R137). -/
def execRecoveryTimerExpiry (s : State) : Host.Outcome State Fault Refusal := complete (recoveryExpiry s)

/-! ### Alerts, lamps and sound -/

/-- ESCALATION_DEADLINE_EXPIRY (R156). -/
def execEscalationDeadlineExpiry (i : SlotId) (s : State) : Host.Outcome State Fault Refusal := complete (escalate i s)

/-- The chime repeat timer has run out: the chime plays again while something is eligible (R164). -/
def chimeRepeat (s : State) : State :=
  if s.runOut s.alerts.chimeRepeatAt then
    if s.alerts.anyEligible then playChime s else { s with alerts := { s.alerts with chimeRepeatAt := none } }
  else s

/-- CHIME_REPEAT_EXPIRY. -/
def execChimeRepeatExpiry (s : State) : Host.Outcome State Fault Refusal := complete (chimeRepeat s)

/-- The note of the chime ends (R149). -/
def chimeNoteEnd (s : State) : State :=
  if s.runOut s.sound.chime.endTime then
    match s.sound.chime.state with
    | .silent => s
    | .firstNote =>
      s.setChime { s.sound.chime with state := .secondNote, endTime := some (s.after Config.chimeNoteMs) }
    | .secondNote => chimeSilence s
  else s

/-- CHIME_NOTE_END. -/
def execChimeNoteEnd (s : State) : Host.Outcome State Fault Refusal := complete (chimeNoteEnd s)

/-- A PLAYING zone tone reaches its end time: the output is SILENT and at its rest level (R146); its other fields stay
(log 29). -/
def toneEnd (z : ZoneId) (s : State) : State :=
  let x := s.tone z
  if x.playing && s.reached x.endTime then s.setTone z { x with playing := false, level := false } else s

/-- TONE_END. -/
def execToneEnd (z : ZoneId) (s : State) : Host.Outcome State Fault Refusal := complete (toneEnd z s)

/-- The flash phase enters its other half (R139). -/
def flashPhase (s : State) : State :=
  if Config.flashHalfMs ≤ s.lamps.half then { s with lamps := { s.lamps with lit := !s.lamps.lit, half := 0 } } else s

/-- FLASH_PHASE. -/
def execFlashPhase (s : State) : Host.Outcome State Fault Refusal := complete (flashPhase s)

/-- A half period of a square wave has passed (R146, R149). -/
def waveHalf : SoundOut → State → State
  | .zone z, s =>
    let x := s.tone z
    s.setTone z { x with level := if x.playing && x.effective ≠ 0 then !x.level else x.level }
  | .chime, s =>
    let x := s.sound.chime
    s.setChime { x with level := if x.state = .silent then x.level else !x.level }

/-- TONE_WAVE_HALF_PERIOD. -/
def execToneWaveHalfPeriod (o : SoundOut) (s : State) : Host.Outcome State Fault Refusal := complete (waveHalf o s)

end Sys2Proof.Machine
end

