-- ==== Sys2Proof/Machine/Clock.lean ====
section
/-! DEFINITION. What happens when no command waits: the threshold events that the last samples made due, and then one
millisecond of the time base, which puts what falls due with it into the queue (00_scope, Time; log 1, log 4). -/

namespace Sys2Proof.Machine

open Sys2Proof

/-- A command if its condition holds. -/
def dueIf (b : Bool) (c : Instr) : List Instr := if b then [c] else []

/-- Events that belong to the latest samples and the latest profile interval (R26, R95, R133, R134). -/
def thresholds (s : State) : List Instr :=
  dueIf s.safety.supply.tripDue .tripConfirm ++ dueIf s.safety.supply.warnDue .warnConfirm
    ++ s.dueLines.map .lineDebounced
    ++ s.jamsDue.map .followingErrorJam

/-- Timers of a station and its player that run out now. -/
def stationDue (s : State) (st : StationId) : List Instr :=
  let x := s.station st
  dueIf (s.runOut x.leakAt) (.tallyLeakExpiry st) ++ dueIf (s.runOut x.flashAt) (.waitFlashExpiry st)
    ++ dueIf (s.runOut x.cooldownAt) (.cooldownExpiry st) ++ dueIf (s.runOut x.restAt) (.restExpiry st)
    ++ dueIf (x.player.state = .playing && s.runOut x.player.deadline) (.waitTimeExpiry st)

/-- The entries that become senior now, in queue order (R48). -/
def State.seniorsDue (s : State) : List StationId :=
  (s.admission.queue.filter fun e => !e.senior && s.starved e).map fun e => e.station

/-- What falls due at a new millisecond; entries that become senior in queue order (R48), escalations in slot order (R150). -/
def timersDue (s : State) : List Instr :=
  dueIf (Config.flashHalfMs ≤ s.lamps.half) .flashPhase
    ++ (lineIds.filter fun l => s.runOut (s.line l).stuckAt).map .stuckTimerExpiry
    ++ stationIds.flatMap (stationDue s) ++ s.seniorsDue.map .entryBecomesSenior
    ++ dueIf (s.runOut s.safety.supply.recoveryAt) .recoveryTimerExpiry
    ++ (slotIds.filter fun i => match s.slot i with
        | some e => s.runOut e.deadline
        | none => false).map .escalationDeadlineExpiry
    ++ dueIf (s.runOut s.alerts.chimeRepeatAt) .chimeRepeatExpiry
    ++ dueIf (s.runOut s.sound.chime.endTime) .chimeNoteEnd
    ++ (zoneIds.filter fun z => (s.tone z).playing && s.reached (s.tone z).endTime).map .toneEnd
    ++ dueIf (s.runOut s.link.gapAt) .gapExpiry
    ++ [.profileInterval]

/-- The commands of one kind in a list, place by place, replaced by those of another list in order. -/
def fillPlaces (kind : Instr → Bool) : List Instr → List Instr → List Instr
  | _, [] => []
  | m, c :: q =>
    if kind c then match m with
      | d :: m' => d :: fillPlaces kind m' q
      | [] => c :: fillPlaces kind [] q
    else c :: fillPlaces kind m q

/-- A rearrangement `q` of a list `l` in which the commands of one kind keep the order that they have in `l`. -/
def keepOrder (kind : Instr → Bool) (l q : List Instr) : List Instr := fillPlaces kind (l.filter kind) q

def isSeniority (c : Instr) : Bool := match c with
  | .entryBecomesSenior _ => true
  | _ => false

def isEscalation (c : Instr) : Bool := match c with
  | .escalationDeadlineExpiry _ => true
  | _ => false

/-- Commands put into the queue in the order that the choices give (log 5), but for entries that become senior, which keep the
order of the demand queue (R48), and for escalations, which keep the order of the slots (R150). -/
def enqueue (l : List Instr) (s : State) : State :=
  let (q, t) := arrange l.length l s
  { t with pending := t.pending ++ keepOrder isEscalation l (keepOrder isSeniority l q) }

/-- One millisecond passes; STARTED comes before everything else of the first one (R179). -/
def tick (s : State) : State :=
  let t := { s with now := s.now + 1, lamps := { s.lamps with half := s.lamps.half + 1 } }
  enqueue (timersDue t) { t with pending := dueIf t.link.startedDue.isSome .started }

/-- The part with no command waiting. -/
def idle (s : State) : State := if (thresholds s).isEmpty then tick s else enqueue (thresholds s) s

end Sys2Proof.Machine
end

