-- ==== Sys2Proof/Machine/Dispatch.lean ====
section
/-! DEFINITION. One arm per command: which meaning runs. -/

namespace Sys2Proof.Machine

def exec (i : Instr) (s : State) : Host.Outcome State Fault Refusal :=
  match i with
  | .ident tag p => Sys2Proof.Machine.execIdent tag p s
  | .status tag p => Sys2Proof.Machine.execStatus tag p s
  | .resetReq tag p => Sys2Proof.Machine.execReset tag p s
  | .setLink tag p => Sys2Proof.Machine.execSetLink tag p s
  | .noticeEnable tag p => Sys2Proof.Machine.execNoticeEnable tag p s
  | .cfgGallery tag p => Sys2Proof.Machine.execCfgGallery tag p s
  | .cfgStation tag p => Sys2Proof.Machine.execCfgStation tag p s
  | .cfgLine tag p => Sys2Proof.Machine.execCfgLine tag p s
  | .cfgAxis tag p => Sys2Proof.Machine.execCfgAxis tag p s
  | .cfgGuard tag p => Sys2Proof.Machine.execCfgGuard tag p s
  | .cfgSupply tag p => Sys2Proof.Machine.execCfgSupply tag p s
  | .stepWrite tag p => Sys2Proof.Machine.execStepWrite tag p s
  | .stepRead tag p => Sys2Proof.Machine.execStepRead tag p s
  | .openReq tag p => Sys2Proof.Machine.execOpen tag p s
  | .closeReq tag p => Sys2Proof.Machine.execClose tag p s
  | .play tag p => Sys2Proof.Machine.execPlay tag p s
  | .cancel tag p => Sys2Proof.Machine.execCancel tag p s
  | .hold tag p => Sys2Proof.Machine.execHold tag p s
  | .release tag p => Sys2Proof.Machine.execRelease tag p s
  | .stop tag p => Sys2Proof.Machine.execStop tag p s
  | .rearm tag p => Sys2Proof.Machine.execRearm tag p s
  | .axisMove tag p => Sys2Proof.Machine.execAxisMove tag p s
  | .axisHome tag p => Sys2Proof.Machine.execAxisHome tag p s
  | .axisClear tag p => Sys2Proof.Machine.execAxisClear tag p s
  | .lampSet tag p => Sys2Proof.Machine.execLampSet tag p s
  | .tone tag p => Sys2Proof.Machine.execTone tag p s
  | .queryStation tag p => Sys2Proof.Machine.execQueryStation tag p s
  | .queryAxis tag p => Sys2Proof.Machine.execQueryAxis tag p s
  | .queryQueue tag p => Sys2Proof.Machine.execQueryQueue tag p s
  | .queryLines tag p => Sys2Proof.Machine.execQueryLines tag p s
  | .queryAlerts tag p => Sys2Proof.Machine.execQueryAlerts tag p s
  | .queryGallery tag p => Sys2Proof.Machine.execQueryGallery tag p s
  | .alertAck tag p => Sys2Proof.Machine.execAlertAck tag p s
  | .alertCall tag p => Sys2Proof.Machine.execAlertCall tag p s
  | .alertMask tag p => Sys2Proof.Machine.execAlertMask tag p s
  | .alertClearOverflow tag p => Sys2Proof.Machine.execAlertClearOverflow tag p s
  | .unknownType type tag p => Sys2Proof.Machine.execUnknownType type tag p s
  | .resetPin => Sys2Proof.Machine.execResetPin s
  | .started => Sys2Proof.Machine.execStarted s
  | .rxByte b => Sys2Proof.Machine.execRxByte b s
  | .framingError => Sys2Proof.Machine.execFramingError s
  | .linkBreak => Sys2Proof.Machine.execLinkBreak s
  | .gapExpiry => Sys2Proof.Machine.execGapExpiry s
  | .frameSent => Sys2Proof.Machine.execFrameSent s
  | .inputSample pins => Sys2Proof.Machine.execInputSample pins s
  | .lineDebounced l => Sys2Proof.Machine.execLineDebounced l s
  | .stuckTimerExpiry l => Sys2Proof.Machine.execStuckTimerExpiry l s
  | .tallyLeakExpiry st => Sys2Proof.Machine.execTallyLeakExpiry st s
  | .waitFlashExpiry st => Sys2Proof.Machine.execWaitFlashExpiry st s
  | .cooldownExpiry st => Sys2Proof.Machine.execCooldownExpiry st s
  | .restExpiry st => Sys2Proof.Machine.execRestExpiry st s
  | .entryBecomesSenior st => Sys2Proof.Machine.execEntryBecomesSenior st s
  | .waitTimeExpiry st => Sys2Proof.Machine.execWaitTimeExpiry st s
  | .profileInterval => Sys2Proof.Machine.execProfileInterval s
  | .followingErrorJam ax => Sys2Proof.Machine.execFollowingErrorJam ax s
  | .encoderTransition ax a b => Sys2Proof.Machine.execEncoderTransition ax a b s
  | .pwmPeriodStart => Sys2Proof.Machine.execPwmPeriodStart s
  | .pwmOnTimeEnd ax => Sys2Proof.Machine.execPwmOnTimeEnd ax s
  | .deadTimeEnd ax leg => Sys2Proof.Machine.execDeadTimeEnd ax leg s
  | .supplySample v => Sys2Proof.Machine.execSupplySample v s
  | .warnConfirm => Sys2Proof.Machine.execWarnConfirm s
  | .tripConfirm => Sys2Proof.Machine.execTripConfirm s
  | .recoveryTimerExpiry => Sys2Proof.Machine.execRecoveryTimerExpiry s
  | .escalationDeadlineExpiry k => Sys2Proof.Machine.execEscalationDeadlineExpiry k s
  | .chimeRepeatExpiry => Sys2Proof.Machine.execChimeRepeatExpiry s
  | .chimeNoteEnd => Sys2Proof.Machine.execChimeNoteEnd s
  | .toneEnd z => Sys2Proof.Machine.execToneEnd z s
  | .flashPhase => Sys2Proof.Machine.execFlashPhase s
  | .toneWaveHalfPeriod o => Sys2Proof.Machine.execToneWaveHalfPeriod o s

end Sys2Proof.Machine
end

