-- ==== Sys2Proof/Safety.lean ====
section
/-! DEFINITION. The laws of the device, as the chapters name them, each a decidable property of the state: what counts as a
safe state of the part. -/

namespace Sys2Proof.Safety

open Sys2Proof Sys2Proof.Machine

/-! ### Settings -/

/-- The stored gallery fields lie in their ranges (R44, R113, R147, R157). -/
def galleryInRange (c : GalleryCfg) : Bool :=
  c.capacity ≤ 250 && (c.starve = 0 || inRange 5 600 c.starve) && (c.escalation = 0 || inRange 10 3600 c.escalation)
    && inRange 10 300 c.chimeRepeat && pwmRates.contains c.pwmKhz && inRange 1 16 c.deadTime
    && zoneIds.all fun z => c.volumes.get z ≤ 15

/-- A station record lies in its ranges, its usable window starts on a multiple of its size inside the store, and its lamp
lines are distinct and at most eight in the group (R7, R60). -/
def stationInRange (r : StationRec) : Bool :=
  r.windowBase ≤ 1023 && r.cooldown ≤ 60000 && (r.tripLevel = 0 || inRange 2 31 r.tripLevel) && inRange 100 5000 r.leak
    && inRange 1 600 r.rest && r.lampsDistinct && r.group.length ≤ 8
    && (!r.usable || (r.windowBase % r.windowSize = 0 && r.windowBase + r.windowSize ≤ Config.stepCount))

/-- A line's configuration lies in its ranges (R23). -/
def lineInRange (c : LineCfg) : Bool := inRange 5 100 c.debounce && (c.stuckLimit = 0 || inRange 2 120 c.stuckLimit)

/-- An axis record lies in its ranges (R80). -/
def axisInRange (r : AxisRec) : Bool :=
  inRange 1 60 r.ratedDraw && inRange 1 32767 r.vmax && inRange 1 4095 r.acc && r.acc ≤ r.vmax
    && inRange 1 4095 r.feLimit && inRange 10 2000 r.feTime && inRangeInt (-posLimit) posLimit r.softMin
    && inRangeInt (-posLimit) posLimit r.softMax && r.softMin ≤ r.softMax && inRangeInt (-posLimit) posLimit r.homePos
    && inRange 1 r.vmax r.homingSpeed && inRange 1 16000000 r.travel && r.dutymax ≤ 1000
    && (match r.park with
      | some p => inRangeInt r.softMin r.softMax p
      | none => true)

/-- The supply settings lie in their ranges (R132). -/
def supplyInRange (c : SupplyCfg) : Bool :=
  c.warn ≤ 1023 && c.trip ≤ c.warn && c.hyst ≤ 63 && inRange 1 64 c.warnConfirm && inRange 1 8 c.tripConfirm
    && inRange 200 10000 c.recovery && (c.warn = 0 || c.warn + c.hyst ≤ 1023)

/-- Every stored setting lies in its range. -/
def settingsInRange (s : State) : Bool :=
  galleryInRange s.gallery.cfg && (stationIds.all fun st => stationInRange (s.station st).cfg)
    && (lineIds.all fun l => lineInRange (s.line l).cfg) && (axisIds.all fun a => axisInRange (s.axis a).cfg)
    && supplyInRange s.safety.supply.cfg

/-! ### Counts -/

/-- Raw counts and encoder error counts stay in their ranges (R115, R117). -/
def countsInRange (s : State) : Bool :=
  axisIds.all fun a => inRangeInt Config.rawMin Config.rawMax (s.bridge a).raw
    && (s.bridge a).err ≤ Config.encoderErrMax

/-- Every tally is within 0..31 (R8). -/
def talliesInRange (s : State) : Bool := stationIds.all fun st => (s.station st).tally ≤ 31

/-! ### Gallery, stations, queue and budget -/

/-- No station is QUEUED except in OPEN, none plays while the gallery is CLOSED or OPENING (R8). -/
def modeLaw (s : State) : Bool :=
  stationIds.all fun st =>
    ((s.station st).state ≠ .queued || s.gallery.mode = .openMode)
      && (!(s.station st).state.active || (s.gallery.mode ≠ .closed && s.gallery.mode ≠ .opening))

/-- In CLOSING no station plays once draining is over: parking has begun, or homings are being stopped (R4 to R6). -/
def closingLaw (s : State) : Bool :=
  s.gallery.mode ≠ .closing || s.gallery.closing = .none || s.gallery.closing = .draining || !s.anyActive

/-- A player that plays, is held or is aborted belongs to a station that is RUNNING, PAUSED or STOPPING (R62, R75, R78). -/
def playerLaw (s : State) : Bool :=
  stationIds.all fun st => match (s.station st).player.state with
    | .idle => true
    | .playing => (s.station st).state = .running
    | .held => (s.station st).state = .paused
    | .aborted => (s.station st).state = .stopping

/-- At most 8 entries, one for each QUEUED station and none for others (R39, R12). -/
def queueLaw (s : State) : Bool :=
  s.admission.queue.length ≤ Config.demandQueueSize && decide (s.admission.queue.map fun e => e.station).Nodup
    && stationIds.all fun st => (s.admission.queue.any fun e => e.station = st) = ((s.station st).state = .queued)

/-- A stop cause is held in STOPPING and in no other state (R8). -/
def causeLaw (s : State) : Bool :=
  stationIds.all fun st => ((s.station st).state = .stopping) = (s.station st).cause.isSome

/-- The claimed total is the sum of the draws of the owned axes and within the capacity (R45). -/
def budgetLaw (s : State) : Bool :=
  s.admission.claimed = s.drawOf (axisIds.filter fun a => (s.axis a).owner ≠ .none)
    && s.admission.claimed ≤ s.gallery.cfg.capacity

/-- A station that owns axes owns its whole set and plays; a playing station owns its set (R54). -/
def ownerLaw (s : State) : Bool :=
  stationIds.all fun st =>
    if (s.station st).state.active then s.owned st = s.setAxes st else s.owned st = []

/-! ### Axes and bridges -/

/-- The commanded position of a homed axis, in whole counts, lies within its soft limits, and so does its target (R82, R85). -/
def softLimitLaw (s : State) : Bool :=
  axisIds.all fun a =>
    let x := s.axis a
    !x.homed || (x.cfg.softMin ≤ x.cmdCounts && x.cmdCounts ≤ x.cfg.softMax
      && (match x.target with
        | some t => x.cfg.softMin ≤ t && t ≤ x.cfg.softMax
        | none => true))

/-- No velocity exceeds vmax, and an axis braked by safety, FAULTED or unowned has velocity 0 (R88). -/
def velocityLaw (s : State) : Bool :=
  axisIds.all fun a =>
    let x := s.axis a
    x.vel ≤ x.cfg.vmax && ((!x.braked && x.state ≠ .faulted && x.owner ≠ .none) || x.vel = 0)

/-- What goes with the state of an axis: it moves in MOVING, HOMING and STOPPING alone, in which it has an owner and is not
braked by safety; MOVING and STOPPING have a target, and STOPPING a stop request; a HOMING axis is GALLERY's and not homed
(R54, R82, R90, R97). -/
def axisLaw (s : State) : Bool :=
  axisIds.all fun a =>
    let x := s.axis a
    match x.state with
    | .moving => x.owner ≠ .none && !x.braked && x.target.isSome && x.stopReq.isNone
    | .stopping => x.owner ≠ .none && !x.braked && x.target.isSome && x.stopReq.isSome
    | .homing => x.owner = .gallery && !x.braked && !x.homed
    | .unconfigured | .unhomed | .idle | .faulted => x.vel = 0 && x.stopReq.isNone

/-- An axis that GALLERY owns is HOMING, MOVING or STOPPING, and no stop asked of it keeps its target, so that its claim ends
where it comes to rest (R54, R56). -/
def claimLaw (s : State) : Bool :=
  axisIds.all fun a =>
    let x := s.axis a
    x.owner ≠ .gallery || ((x.state = .homing || x.state = .moving || x.state = .stopping) && x.stopReq ≠ some .keep)

/-- Speed override and derate lie within 0..100 percent (R65, R86). -/
def percentLaw (s : State) : Bool := s.axes.derate ≤ 100 && axisIds.all fun a => (s.axis a).override ≤ 100

/-- An axis is braked by safety exactly while its group is not CLEAR or the supply is TRIPPED or RECOVERING (R122). -/
def brakeLaw (s : State) : Bool := axisIds.all fun a => (s.axis a).braked = s.shouldBrake a

/-- DRIVE only while the axis may be driven; a configured axis that may not is in BRAKE; an unconfigured one in FLOAT (R106). -/
def outputLaw (s : State) : Bool :=
  axisIds.all fun a => match (s.bridge a).out with
    | .float => !(s.axis a).configured
    | .brake => (s.axis a).configured
    | .drive => (s.axis a).mayDrive

/-- The magnitude of both duties of a bridge is at most the dutymax of its axis, and both are 0 while the axis may not be driven
(R94, R107; log 47). -/
def dutyLaw (s : State) : Bool :=
  axisIds.all fun a =>
    let b := s.bridge a
    b.loaded.natAbs ≤ (s.axis a).cfg.dutymax && b.buffered.natAbs ≤ (s.axis a).cfg.dutymax
      && ((s.axis a).mayDrive || (b.loaded = 0 && b.buffered = 0))

/-- An axis whose encoder error count is 255 is FAULTED (R119). -/
def encoderLaw (s : State) : Bool :=
  axisIds.all fun a => (s.bridge a).err ≠ Config.encoderErrMax || (s.axis a).state = .faulted

/-! ### Alerts -/

/-- Some slot holds the key in two places: never (R150). -/
def alertKeysDistinct (u : AlertUnit) : Bool :=
  slotIds.all fun i => slotIds.all fun j => match u.slots.get i, u.slots.get j with
    | some e, some f => i = j || e.kind ≠ f.kind || e.source ≠ f.source
    | _, _ => true

/-- Every entry is unacknowledged or active (R150). -/
def alertsLive (u : AlertUnit) : Bool :=
  slotIds.all fun i => match u.slots.get i with
    | some e => !e.acked || e.active
    | none => true

/-- Only an entry of a lasting kind is active (R150, R151). -/
def activeLaw (u : AlertUnit) : Bool :=
  slotIds.all fun i => match u.slots.get i with
    | some e => !e.active || e.kind.lasting
    | none => true

/-- A GUARD_BROKEN or SUPPLY_TRIP entry is URGENT (Attendant Alerts, Alert kinds). -/
def urgentLaw (u : AlertUnit) : Bool :=
  slotIds.all fun i => match u.slots.get i with
    | some e => (e.kind ≠ .guardBroken && e.kind ≠ .supplyTrip) || (e.base = .urgent && e.severity = .urgent)
    | none => true

/-- A deadline is held only by an unacknowledged ATTEND entry (R156). -/
def deadlinesLaw (u : AlertUnit) : Bool :=
  slotIds.all fun i => match u.slots.get i with
    | some e => e.deadline.isNone || (!e.acked && e.severity = .attend)
    | none => true

/-- While the overflow flag is clear, a beacon flashes only for an unacknowledged URGENT entry of its zone or of ALL (R161). -/
def beaconLaw (u : AlertUnit) : Bool :=
  zoneIds.all fun z => u.overflow || u.beacon z ≠ .flash || u.anyIn z fun e => !e.acked && e.severity = .urgent

/-! ### Link -/

/-- The FIFO and the two queues are within their sizes, a place of the notice queue being kept for STARTED while it is due; no
frame is sent while it is due; a reply waits for no more notices than are queued (R171, R175, R177, R179). -/
def linkLaw (s : State) : Bool :=
  s.link.fifo.length ≤ Config.fifoSize && s.link.replies.length ≤ Config.replyQueueSize
    && s.link.notices.length ≤ s.link.noticeRoom && (s.link.startedDue.isNone || s.link.tx = .idle)
    && (s.link.replies.all fun r => r.waits ≤ s.link.notices.length)

/-- Nothing is left over between commands (log 11, log 23). -/
def workDone (s : State) : Bool := s.work.dirty = 0 && !s.work.passDue && !s.work.scanDue

end Sys2Proof.Safety
end

