-- ==== Sys2Proof/Certificates/Slice0/Obligations.lean ====
section
/-! DEFINITION. The statements for the provers. Each is one proposition about the model; its docstring names the rules of the
spec it rests on. Where a statement speaks of an effect that the model chose, the docstring names the log entry. -/

namespace Sys2Proof.Claims

open Sys2Proof Sys2Proof.Machine

/-! ### Words the statements share -/

/-- The request handler can take a request at once (R173, R181). -/
abbrev LinkFree (s : State) : Prop :=
  s.link.heldFrame = none ∧ s.link.replies.length < 4 ∧ s.link.resetting = false

/-- A state with one reply queued behind the others, and an idle transmitter started (R174 to R176). -/
def replied (type tag : Byte) (payload : List Byte) (waits : Nat) (effect : ReplyEffect) (t : State) : State :=
  kickTx { t with link := { t.link with
    replies := t.link.replies ++ [{ frame := ⟨type + 0x80, tag, payload⟩, waits := waits, effect := effect }] } }

/-- A request answered by a status alone, nothing else changed but the reply queue and the transmitter (R174). -/
def refused (type tag : Byte) (status : Status) (s : State) : State := replied type tag [status.code] 0 .none s

/-- A request answered OK whose handling left the state `t`. -/
def accepted (type tag : Byte) (s t : State) : State := replied type tag [0] (waitsAfter s t) .none t

/-- A query answered with data, nothing else changed but the reply queue and the transmitter. -/
def reported (type tag : Byte) (data : List Byte) (s : State) : State := replied type tag (0 :: data) 0 .none s

/-- The request a command carries: TYPE, TAG and payload. -/
def requestOf : Instr → Option (Byte × Byte × List Byte)
  | .ident t p => some (0x01, t, p)
  | .status t p => some (0x02, t, p)
  | .resetReq t p => some (0x03, t, p)
  | .setLink t p => some (0x04, t, p)
  | .noticeEnable t p => some (0x05, t, p)
  | .cfgGallery t p => some (0x10, t, p)
  | .cfgStation t p => some (0x11, t, p)
  | .cfgLine t p => some (0x12, t, p)
  | .cfgAxis t p => some (0x13, t, p)
  | .cfgGuard t p => some (0x14, t, p)
  | .cfgSupply t p => some (0x15, t, p)
  | .stepWrite t p => some (0x16, t, p)
  | .stepRead t p => some (0x17, t, p)
  | .openReq t p => some (0x20, t, p)
  | .closeReq t p => some (0x21, t, p)
  | .play t p => some (0x22, t, p)
  | .cancel t p => some (0x23, t, p)
  | .hold t p => some (0x24, t, p)
  | .release t p => some (0x25, t, p)
  | .stop t p => some (0x26, t, p)
  | .rearm t p => some (0x27, t, p)
  | .axisMove t p => some (0x28, t, p)
  | .axisHome t p => some (0x29, t, p)
  | .axisClear t p => some (0x2A, t, p)
  | .lampSet t p => some (0x2B, t, p)
  | .tone t p => some (0x2C, t, p)
  | .queryStation t p => some (0x30, t, p)
  | .queryAxis t p => some (0x31, t, p)
  | .queryQueue t p => some (0x32, t, p)
  | .queryLines t p => some (0x33, t, p)
  | .queryAlerts t p => some (0x34, t, p)
  | .queryGallery t p => some (0x35, t, p)
  | .alertAck t p => some (0x38, t, p)
  | .alertCall t p => some (0x39, t, p)
  | .alertMask t p => some (0x3A, t, p)
  | .alertClearOverflow t p => some (0x3B, t, p)
  | .unknownType ty t p => some (ty, t, p)
  | .resetPin | .started | .rxByte _ | .framingError | .linkBreak | .gapExpiry | .frameSent | .inputSample _
  | .lineDebounced _ | .stuckTimerExpiry _ | .tallyLeakExpiry _ | .waitFlashExpiry _ | .cooldownExpiry _ | .restExpiry _
  | .entryBecomesSenior _ | .waitTimeExpiry _ | .profileInterval | .followingErrorJam _ | .encoderTransition _ _ _
  | .pwmPeriodStart | .pwmOnTimeEnd _ | .deadTimeEnd _ _ | .supplySample _ | .warnConfirm | .tripConfirm
  | .recoveryTimerExpiry | .escalationDeadlineExpiry _ | .chimeRepeatExpiry | .chimeNoteEnd | .toneEnd _ | .flashPhase
  | .toneWaveHalfPeriod _ => none

/-- The payload lengths that the catalogue gives for a request code. -/
def lengthsOf (type : Byte) : List Nat := match type.toNat with
  | 0x01 | 0x02 | 0x03 | 0x20 | 0x21 | 0x35 | 0x3B => [0]
  | 0x05 | 0x22 | 0x23 | 0x24 | 0x25 | 0x26 | 0x27 | 0x29 | 0x2A | 0x30 => [1]
  | 0x04 | 0x14 | 0x31 | 0x32 | 0x34 | 0x38 => [2]
  | 0x17 | 0x33 | 0x39 => [3]
  | 0x3A => [5]
  | 0x28 | 0x2C => [6]
  | 0x12 => [7]
  | 0x15 => [9]
  | 0x10 => [13]
  | 0x11 => [24]
  | 0x13 => [38]
  | 0x16 => [15, 27, 39, 51]
  | 0x2B => (List.range 30).map fun n => 1 + 2 * n
  | _ => []

/-- Bytes fed to a framer, and the frames it completes. -/
def feed : Framer → List Byte → Framer × List Frame
  | fr, [] => (fr, [])
  | fr, b :: bs =>
    let (fr', done) := fr.take b
    let (last, more) := feed fr' bs
    (last, done.toList ++ more)

/-- An interruption of the run of bytes: recorded after the newest byte held, or met by the framer at once (R171). -/
def interrupted (x : LinkUnit) : LinkUnit :=
  if x.fifo = [] then { x with framer := .hunt } else { x with fifo := markLast x.fifo }

/-- The gap timer started at the present time. -/
def gapNow (s : State) : Option Time := some (s.now + BitVec.ofNat 32 s.link.gap)

/-- A signed four-byte field, least significant byte first (R170). -/
def int32 (v : Int) : List Byte := le32 (BitVec.ofInt 32 v).toNat

/-- The payload that carries the fields of CFG_GALLERY. -/
def galleryBytes (c : GalleryCfg) : List Byte :=
  [byte c.capacity] ++ le16 c.starve ++ le16 c.escalation ++ le16 c.chimeRepeat
    ++ [byte c.pwmKhz, byte c.deadTime, byte (c.volumes.get 0), byte (c.volumes.get 1), byte (c.volumes.get 2),
        byte (c.volumes.get 3)]

/-- A lamp line byte. -/
def lampByte : Option LampId → Byte
  | none => 0xFF
  | some i => byte i.val

/-- The payload that carries a station record. -/
def stationBytes (st : StationId) (r : StationRec) : List Byte :=
  [byte st.val, if r.enabled then 1 else 0, byte r.zone.val, r.axes] ++ le16 r.windowBase ++ [byte r.sizeCode]
    ++ le16 r.cooldown ++ [byte r.tripLevel] ++ le16 r.leak ++ le16 r.rest ++ [lampByte r.ready, lampByte r.wait]
    ++ (List.range 8).map fun k => lampByte r.group[k]?

/-- Role and target bytes of a line. -/
def roleBytes : LineRole → Byte × Byte
  | .unused => (0, 0xFF)
  | .demand st => (1, byte st.val)
  | .guard g => (2, byte g.val)
  | .key => (3, 0xFF)
  | .home a => (4, byte a.val)
  | .spare => (5, 0xFF)

/-- The payload that carries the configuration of a line. -/
def lineBytes (l : LineId) (c : LineCfg) : List Byte :=
  [byte l.val, (roleBytes c.role).1, if c.activeLow then 1 else 0, byte c.debounce, byte c.stuckLimit, byte c.zone.val,
   (roleBytes c.role).2]

/-- A payload that carries an axis record; `idle` stands in the park position bytes where none is given, which are not tested
(R80). -/
def axisRequest (a : AxisId) (r : AxisRec) (idle : Int) : List Byte :=
  [byte a.val,
   byte ((if r.enabled then 1 else 0) + (if r.homePositive then 2 else 0) + (if r.encInvert then 4 else 0)
     + (if r.park.isSome then 8 else 0)),
   byte r.ratedDraw] ++ le16 r.vmax ++ le16 r.acc ++ le16 r.feLimit ++ le16 r.feTime ++ int32 r.softMin ++ int32 r.softMax
    ++ int32 r.homePos ++ le16 r.homingSpeed ++ le32 r.travel ++ int32 (r.park.getD idle)
    ++ [byte r.group.val, byte r.kp, byte r.kf] ++ le16 r.dutymax

/-- An axis record laid out with no park position as zeros. -/
def axisBytes (a : AxisId) (r : AxisRec) : List Byte := axisRequest a r 0

/-- The payload that carries the supply settings. -/
def supplyBytes (c : SupplyCfg) : List Byte :=
  le16 c.warn ++ le16 c.trip ++ [byte c.hyst, byte c.warnConfirm, byte c.tripConfirm] ++ le16 c.recovery

/-- The safety settings of a line: group and polarity of a GUARD line (R22). -/
def lineSafety (c : LineCfg) : Option (GroupId × Bool) := match c.role with
  | .guard g => some (g, c.activeLow)
  | .unused | .demand _ | .key | .home _ | .spare => none

/-- The safety settings of an axis (R22). -/
def axisSafety (r : AxisRec) : GroupId × Nat × Nat × Int × Int := (r.group, r.ratedDraw, r.dutymax, r.softMin, r.softMax)

/-- Nothing waits to be done: no work is left over, the gallery is CLOSED or OPEN and no axis waits to home or park; in OPEN
an admission pass would grant nothing, the hold being on or the queue empty. -/
abbrev Settled (s : State) : Prop :=
  s.work = {} ∧ s.admission.homingWait = 0 ∧ s.admission.parkingWait = 0 ∧
  (s.gallery.mode = .closed ∨ s.gallery.mode = .openMode ∧ (s.admission.hold = true ∨ s.admission.queue = []))

/-- The supply monitor is TRIPPED or RECOVERING. -/
abbrev SupplyOut (s : State) : Prop := s.safety.supply.state = .tripped ∨ s.safety.supply.state = .recovering

/-- The axes of a station's set. -/
abbrev inSet (s : State) (st : StationId) (a : AxisId) : Prop := hasBit (s.station st).cfg.axes a.val = true

/-- A station is RUNNING, PAUSED or STOPPING. -/
abbrev Playing (s : State) (st : StationId) : Prop :=
  (s.station st).state = .running ∨ (s.station st).state = .paused ∨ (s.station st).state = .stopping

/-- A station whose indicators show these states, all other lamps as before. -/
abbrev LampsShow (s t : State) (st : StationId) (ready wait : LampState) : Prop :=
  ∀ i, t.lamp i = if (s.station st).cfg.wait = some i then wait
    else if (s.station st).cfg.ready = some i then ready else s.lamp i

/-- A controlled stop asked of an axis: with KEEP it leaves the target, with DISCARD a resting axis loses it (R90). -/
def stopped (keep : Bool) (x : Axis) : Axis := match x.state, keep with
  | .moving, true => { x with state := .stopping, stopReq := some .keep }
  | .moving, false => { x with state := .stopping, stopReq := some .discard }
  | .homing, true => { x with stopReq := some .keep }
  | .homing, false | .stopping, false => { x with stopReq := some .discard }
  | .idle, false | .unhomed, false => { x with target := none }
  | _, _ => x

/-- The tally after a press, before it is tested, and when its leak timer expires (R9, R11). -/
def pressed (s : State) (x : Station) : Station :=
  { x with tally := min 31 (x.tally + 1),
           leakAt := if x.tally = 0 then some (s.now + BitVec.ofNat 32 x.cfg.leak) else x.leakAt }

/-- The tally after a press reaches the trip level (R10). -/
abbrev Trips (x : Station) : Prop := x.cfg.tripLevel ≠ 0 ∧ x.cfg.tripLevel ≤ min 31 (x.tally + 1)

/-- The tally after a press in a state other than READY (R10). -/
def counted (s : State) (x : Station) : Station :=
  if x.cfg.tripLevel ≠ 0 ∧ x.cfg.tripLevel ≤ min 31 (x.tally + 1) then { x with tally := 0, leakAt := none, restOwed := true }
  else pressed s x

/-- A line after a press is recognised at the latest sample (R26, R27, R34). -/
def lineAfterPress (s : State) (x : Line) : Line :=
  { x with
    debounced := true, count := 0, pressed := true,
    stuckAt := match x.cfg.role with
      | .demand _ | .key =>
        if x.cfg.stuckLimit = 0 then none else some (s.lines.sampleTime + BitVec.ofNat 32 (x.cfg.stuckLimit * 1000))
      | .unused | .guard _ | .home _ | .spare => none }

/-- A line after a release is recognised (R26, R27, R35). -/
def lineAfterRelease (x : Line) : Line :=
  { x with debounced := false, count := 0, released := true, stuckAt := none, stuck := false }

/-- A LINE_EVENT notice of an event recognised at the latest sample, none for an UNUSED line (R36). -/
def lineNotice (s : State) (l : LineId) (event : Byte) : State :=
  if (s.line l).cfg.role = .unused then s
  else sendNotice .line 0x46
    ([byte l.val, event, (roleBytes (s.line l).cfg.role).1, byte (s.line l).cfg.zone.val] ++ le32 s.lines.sampleTime.toNat) s

/-- The debounce count of a line has reached its debounce time (R26). -/
abbrev Due (x : Line) : Prop := x.fresh = false ∧ x.raw ≠ x.debounced ∧ x.cfg.debounce ≤ x.count

/-- An entry after its acknowledgement: it leaves the table if its condition has ended (R158). -/
def acknowledged (e : Alert) : Option Alert :=
  if e.acked then some e else if e.active then some { e with acked := true, deadline := none } else none

/-- The entry belongs to a zone or to ALL. -/
abbrev ofZone (z : ZoneId) (e : Alert) : Prop := e.zone = .zone z ∨ e.zone = .all

/-- The duty of an axis that takes no profile step: the proportional term alone (R94). -/
def holdingDuty (x : Axis) (enc : Int) : Int :=
  clampInt (-(x.cfg.dutymax : Int)) x.cfg.dutymax (Int.tdiv (x.cfg.kp * clampInt (-32767) 32767 (x.cmd / 256 - enc)) 16)

/-- The axis is owned, not FAULTED and not braked by safety (R94, R95). -/
abbrev Driven (x : Axis) : Prop := x.owner ≠ .none ∧ x.state ≠ .faulted ∧ x.braked = false

/-- The following-error timer has not reached its time (R95). -/
def NotJamming (x : Axis) : Prop := ∀ n, x.feTimer = some n → n < x.cfg.feTime

/-- The axis takes no profile step: it is not MOVING, HOMING or STOPPING (R87). -/
abbrev Still (x : Axis) : Prop := x.state ≠ .moving ∧ x.state ≠ .homing ∧ x.state ≠ .stopping

/-- The next phase pair (A, B) in the direction that counts +1 (R114). -/
def nextPhase : Bool × Bool → Bool × Bool
  | (false, false) => (true, false)
  | (true, false) => (true, true)
  | (true, true) => (false, true)
  | (false, true) => (false, false)

/-- A leg on its way to its low side: through the dead time unless the low side is on (R107, R111). -/
def toLowSide (l : Leg) : Leg := if l = .low then .low else .deadLow

/-- The level of a pin read through a line's polarity, true for active (R25). -/
def level (x : Line) (pins : LineSet) (l : LineId) : Bool := if x.cfg.activeLow then !hasBit pins l.val else hasBit pins l.val

/-- A GUARD line goes active at this sample, against its level or at its first sample (R24, R30). -/
abbrev Opens (s : State) (pins : LineSet) (l : LineId) (g : GroupId) : Prop :=
  (s.line l).cfg.role = .guard g ∧ level (s.line l) pins l = true ∧ ((s.line l).fresh = true ∨ (s.line l).debounced = false)

/-- A raw edge of a HOME line is seen at this sample (R32). -/
abbrev Edge (s : State) (pins : LineSet) (l : LineId) (a : AxisId) : Prop :=
  (s.line l).cfg.role = .home a ∧ s.lines.sampled = true ∧ level (s.line l) pins l ≠ (s.line l).raw

/-- A line after a sample at which no break is recognised on it and its count is not yet judged (R24 to R26, R34). -/
def sampled (s : State) (pins : LineSet) (l : LineId) : Line :=
  let x := s.line l
  let raw := level x pins l
  if x.fresh then
    { x with
      raw := raw, debounced := raw, count := 0, fresh := false,
      stuckAt := match x.cfg.role with
        | .demand _ | .key =>
          if raw = true ∧ x.cfg.stuckLimit ≠ 0 then some (s.now + BitVec.ofNat 32 (x.cfg.stuckLimit * 1000)) else none
        | .unused | .guard _ | .home _ | .spare => none }
  else if raw = x.debounced then { x with raw := raw, count := 0 }
  else { x with raw := raw, count := x.count + 1 }

/-- The count of a line is full at this sample: a change of its level is due (R26). -/
abbrev Fills (s : State) (pins : LineSet) (l : LineId) : Prop := (∀ g, ¬ Opens s pins l g) ∧ Due (sampled s pins l)

/-- A group of these fields BROKEN by a further line (R123, R124). -/
def brokenBy (l : LineId) (x : GuardGroup) : GuardGroup :=
  { x with state := .broken, brokenLines := addBit x.brokenLines l.val }

/-- A count of the supply monitor has reached its confirm value (R133, R134). -/
abbrev ConfirmDue (u : Supply) : Prop :=
  (u.state = .normal ∨ u.state = .low) ∧ (u.cfg.warnConfirm ≤ u.warnCount ∨ u.cfg.tripConfirm ≤ u.tripCount)

/-- The escalation deadline of an entry that takes this severity now (R156). -/
def deadlineNow (s : State) (sev : Severity) : Option Time :=
  if sev = .attend ∧ s.gallery.cfg.escalation ≠ 0 then some (s.now + BitVec.ofNat 32 (s.gallery.cfg.escalation * 1000)) else none

/-- The entry of a new HOST_CALL (R153, R166). -/
def newCall (s : State) (i : Fin 16) (sev : Severity) (z : ZoneSel) : Alert :=
  { kind := .hostCall, source := .host i, zone := z, base := sev, severity := sev, acked := false, active := false, count := 1,
    first := s.now, last := s.now, deadline := deadlineNow s sev }

/-- No entry has this kind and source. -/
def Unheld (s : State) (k : AlertKind) (src : AlertSource) : Prop := ∀ i e, s.slot i = some e → e.kind ≠ k ∨ e.source ≠ src

/-- Something sounds the chime: an entry that is unacknowledged and URGENT and whose zone is not masked, or the overflow flag,
each while quiet is off (Masks and quiet, R162, R165). -/
def Calls (u : AlertUnit) : Prop :=
  u.quiet = false ∧ (u.overflow = true ∨ ∃ i e, u.slots.get i = some e ∧ e.acked = false ∧ e.severity = .urgent ∧
    match e.zone with
    | .zone z => hasBit u.masks z.val = false
    | .all => ∃ z : ZoneId, hasBit u.masks z.val = false)

/-- The chime repeat timer started now (R163). -/
def repeatNow (s : State) : Option Time := some (s.now + BitVec.ofNat 32 (s.gallery.cfg.chimeRepeat * 1000))

/-- The chime output after a play request (R149). -/
def chimeAfterPlay (s : State) : Chime :=
  if s.sound.chime.state = .silent then { s.sound.chime with state := .firstNote, endTime := some (s.now + 600) }
  else s.sound.chime

/-- A running timer has reached its end (00_scope, Time). -/
def ranOut (s : State) (timer : Option Time) : Bool := timer.any fun d => (s.now - d).toNat < 2147483648

/-- Places that the notice queue has for notices: 32, one of them kept for STARTED while that is due (R177, R179; the kept
place is log 42). -/
def room (s : State) : Nat := if s.link.startedDue = none then 32 else 31

/-- The sum of the rated draws of a station's set (R46). -/
def draw (s : State) (st : StationId) : Nat :=
  ((axisIds.filter fun a => hasBit (s.station st).cfg.axes a.val).map fun a => (s.axis a).cfg.ratedDraw).sum

/-- An entry of the station is admissible: OPEN, the hold off, a usable window, its axes free, homed, not braked and IDLE, and
their draws within the free budget (R46). -/
abbrev Admits (s : State) (st : StationId) : Prop :=
  s.gallery.mode = .openMode ∧ s.admission.hold = false ∧ 3 ≤ (s.station st).cfg.sizeCode ∧ (s.station st).cfg.sizeCode ≤ 8 ∧
  (∀ a, inSet s st a → (s.axis a).owner = .none ∧ (s.axis a).homed = true ∧ (s.axis a).braked = false ∧
    (s.axis a).state = .idle) ∧
  draw s st ≤ s.gallery.cfg.capacity - s.admission.claimed

/-- The first step of the station's window is a WAIT_TIME of `d` milliseconds, not 0 (R66). -/
abbrev StartsWaiting (s : State) (st : StationId) (d : Nat) : Prop :=
  d ≠ 0 ∧ u8 (s.stepRecord (s.station st).cfg.windowBase) 0 = 2 ∧ u16 (s.stepRecord (s.station st).cfg.windowBase) 1 = d

/-- `t` is `s` with the show of the station, whose record and timers stood as `y`, admitted and waiting `d` milliseconds at its
first step (R52, R62, R66). -/
abbrev Admitted (s t : State) (st : StationId) (y : Station) (d : Nat) : Prop :=
  t.station st = { y with
    state := .running, cause := none,
    player := { state := .playing, current := 0, wait := .time, deadline := some (s.now + BitVec.ofNat 32 d) } } ∧
  (∀ o, o ≠ st → t.station o = s.station o) ∧
  t.admission = { s.admission with
    queue := s.admission.queue.filter fun f => f.station ≠ st, claimed := s.admission.claimed + draw s st } ∧
  ∀ a, t.axis a = if inSet s st a then { s.axis a with owner := .station st } else s.axis a

/-- An axis that takes a target: at rest at once if it stands there, else on its way, a KEEP stop cleared (R85). -/
def aimed (g : Int) (x : Axis) : Axis :=
  if x.vel = 0 ∧ x.cmd = g * 256 then
    { x with target := none, stopReq := none,
             state := match x.state with
               | .moving | .stopping => if x.homed then .idle else .unhomed
               | other => other }
  else
    { x with target := some g,
             stopReq := if x.stopReq = some .keep then none else x.stopReq,
             negative := if x.vel ≠ 0 then x.negative else decide (g * 256 < x.cmd),
             state := match x.state, x.stopReq with
               | .idle, _ | .unhomed, _ | .stopping, some .keep => .moving
               | other, _ => other }

/-- An axis that a MOVE step or AXIS_MOVE gives a target: beyond a soft limit of a homed axis it is clamped (R85). -/
def moved (g : Int) (x : Axis) : Axis := aimed (if x.homed then clampInt x.cfg.softMin x.cfg.softMax g else g) x

/-- The axis is HOMING and has captured its edge, so that a brake judges its homing, which may fail (R92, R100). -/
abbrev HomingCaptured (x : Axis) : Prop := x.state = .homing ∧ x.phase = some .captured

/-- At rest: velocity 0 and no target (R83). -/
abbrev Resting (x : Axis) : Prop := x.vel = 0 ∧ x.target = none

/-- An entry of this kind and source is in the table and active. -/
def Raised (t : State) (k : AlertKind) (src : AlertSource) : Prop :=
  ∃ i e, t.slot i = some e ∧ e.kind = k ∧ e.source = src ∧ e.active = k.lasting

/-- The laws that hold the gallery, the stations, the players, the queue and the owners together. -/
def galleryLaws (s : State) : Bool :=
  Safety.modeLaw s && Safety.closingLaw s && Safety.playerLaw s && Safety.queueLaw s && Safety.ownerLaw s

/-- The laws of the axes in motion. -/
def motionLaws (s : State) : Bool :=
  Safety.axisLaw s && Safety.claimLaw s && Safety.percentLaw s && Safety.velocityLaw s

/-- The laws of the entries of the alert table. -/
def alertLaws (u : AlertUnit) : Bool :=
  Safety.alertKeysDistinct u && Safety.activeLaw u && Safety.alertsLive u && Safety.deadlinesLaw u && Safety.urgentLaw u

/-- What a profile interval does to an axis that takes no step: a driven one keeps its place, and its duty and following-error timer
are set from where its encoder stands; any other configured one follows its encoder (R82, R94, R95, R112). -/
def KeepsStill (s t : State) (a : AxisId) : Prop :=
  let x := s.axis a
  let enc := (s.bridge a).raw + x.offset
  let error := clampInt (-32767) 32767 (x.cmd / 256 - enc)
  (Driven x → t.axis a = { x with feTimer :=
      (if x.cfg.feLimit < error.natAbs then some (x.feTimer.getD 0 + 1) else none) } ∧
    t.bridge a = (if x.state = .unconfigured then s.bridge a else { s.bridge a with buffered := holdingDuty x enc })) ∧
  (¬ Driven x → x.state ≠ .unconfigured →
    t.axis a = { x with
      feTimer := none, cmd := (if x.homed then clampInt x.cfg.softMin x.cfg.softMax enc else enc) * 256 } ∧
    t.bridge a = { s.bridge a with buffered := 0 }) ∧
  (¬ Driven x → x.state = .unconfigured → t.axis a = x ∧ t.bridge a = s.bridge a)


/-- Nothing waits to be done, in any mode: no work is left over; in OPEN an admission pass would grant nothing, the hold being on or
the queue empty; OPENING is not over, something still to home or held for homing; and CLOSING is not over at its phase: draining
while a show plays, stopping its homings while the gallery owns an axis, parking while an axis waits to park or is owned so. -/
abbrev Steady (s : State) : Prop :=
  s.work = {} ∧
  (s.gallery.mode = .openMode → s.admission.hold = true ∨ s.admission.queue = []) ∧
  (s.gallery.mode = .opening →
    s.admission.homingWait ≠ 0 ∨ ∃ a, (s.axis a).state = .homing ∨ (s.axis a).owner = .gallery) ∧
  (s.gallery.mode = .closing →
    (s.gallery.closing = .draining → ∃ st, Playing s st) ∧
    (s.gallery.closing = .stoppingHoming → ∃ a, (s.axis a).owner = .gallery) ∧
    (s.gallery.closing = .parking → s.admission.parkingWait ≠ 0 ∨ ∃ a, (s.axis a).owner = .gallery))

/-- While the gallery drains, another station than this one plays on. -/
abbrev DrainsOn (s : State) (st : StationId) : Prop :=
  s.gallery.mode = .closing → s.gallery.closing = .draining → ∃ o, o ≠ st ∧ Playing s o

/-- The link of `t` is the link of `u` but for notices queued after those of `u`, and notices lost since (R177). -/
abbrev Follows (u t : State) : Prop :=
  t.link = { u.link with notices := t.link.notices, noticesLost := t.link.noticesLost } ∧
  u.link.notices <+: t.link.notices ∧ (u.link.noticesLost = true → t.link.noticesLost = true)

/-- A GALLERY_MODE notice (R1). -/
def modeNotice (m : Mode) (s : State) : State := sendNotice .gallery 0x41 [m.code] s

/-- A STATION_STATE notice (R8). -/
def stationNotice (x : StState) (c : Option StopCause) (st : StationId) (s : State) : State :=
  sendNotice .station 0x42 [byte st.val, x.code, causeCode c] s

/-- An AXIS_STATE notice of an axis that stands so (R83). -/
def axisNotice (a : AxisId) (x : Axis) (s : State) : State :=
  sendNotice .axis 0x43
    [byte a.val, x.state.code, x.owner.code, if x.homed then 1 else 0, faultCode x.faultKind, if x.braked then 1 else 0] s

/-- A GUARD_STATE notice of a group that stands so (R131). -/
def guardNotice (g : GroupId) (x : GuardGroup) (s : State) : State :=
  sendNotice .guard 0x47
    [byte g.val, x.state.code, byte x.zone.val, byte ((List.range 40).filter fun l => hasBit x.brokenLines l).length] s

/-- A SUPPLY_STATE notice of a change to a state, from the one the monitor is in (R138). -/
def supplyNotice (new : SupplyState) (s : State) : State :=
  sendNotice .supply 0x44 ([new.code, s.safety.supply.state.code] ++ le16 s.safety.supply.latest) s

/-- An ALERT notice of an entry that stands so in its slot, or in none (R167). -/
def alertNotice (change : AlertChange) (slot : Option SlotId) (e : Alert) (s : State) : State :=
  sendNotice .alert 0x45 ([change.code, (slot.map fun i => byte i.val).getD 0xFF, e.kind.code, e.source.kindCode, e.source.index,
    e.zone.code, e.severity.code, e.base.code,
    byte ((if e.acked then 1 else 0) + (if e.active then 2 else 0) + (if e.deadline.isSome then 4 else 0)), byte e.count]
    ++ le32 e.first.toNat ++ le32 e.last.toNat) s

/-- The AXIS_STATE notices of some axes, as they stand in `t`, in ascending index (R83). -/
def axisNotices (p : AxisId → Bool) (t s : State) : State :=
  forEach (axisIds.filter p) (fun a => axisNotice a (t.axis a)) s

/-- The AXIS_STATE notices of the axes of a station's set, as they stand in `t`, in ascending index (R54, R83). -/
def setNotices (t : State) (st : StationId) (s : State) : State :=
  axisNotices (fun a => hasBit (s.station st).cfg.axes a.val) t s

/-- The GUARD_STATE notices of the groups that an arming makes CLEAR, in ascending index (R127, R131). -/
def armingNotices (p : GroupId → Bool) (s : State) : State :=
  forEach (groupIds.filter fun g => p g && decide ((s.group g).state = .unarmed))
    (fun g => guardNotice g { s.group g with state := .clear }) s

/-- The AXIS_STATE notices of the axes that the arming of every group frees, in ascending index (R83, R127), after the notices of
`u`. -/
def freedNotices (s u : State) : State :=
  forEach (axisIds.filter fun a => (s.axis a).braked && decide ((s.group (s.axis a).cfg.group).state = .unarmed))
    (fun a => axisNotice a { s.axis a with braked := false }) u

/-- The ALERT notice of an acknowledgement of a slot's entry, none for an entry acknowledged before (R158, R167). -/
def ackNotice (s : State) (i : SlotId) (u : State) : State := match s.slot i with
  | none => u
  | some e =>
    if e.acked then u
    else alertNotice (if e.active then .acknowledged else .removed) (some i) { e with acked := true, deadline := none } u

/-- The player after an abort (R78). -/
def abortedPlayer (p : Player) : Player :=
  { p with state := .aborted, wait := .none, waitAxes := 0, reported := 0, deadline := none, remaining := 0, trigger := none }

/-- An axis after a RELEASE: one that holds a kept target and takes targets is given it again (R76, R85). -/
def resumed (x : Axis) : Axis := match x.target with
  | some g => if x.state = .faulted ∨ x.braked = true then x else aimed g x
  | none => x

/-! The fields of a request that lie outside their ranges, byte by byte in its layout. -/

/-- A value outside a range. -/
abbrev Outside (lo hi v : Int) : Prop := v < lo ∨ hi < v

/-- CFG_STATION: index, enabled, zone, window base, cooldown, trip level, leak, rest; a lamp line byte that names no line and is
not none; a line of the lamp group after a none (R7, R174). -/
abbrev StationOutOfRange (p : List Byte) : Prop :=
  12 ≤ u8 p 0 ∨ 2 ≤ u8 p 1 ∨ 4 ≤ u8 p 2 ∨ 1024 ≤ u16 p 4 ∨ 60000 < u16 p 7 ∨ u8 p 9 = 1 ∨ 32 ≤ u8 p 9 ∨
  Outside 100 5000 (u16 p 10) ∨ Outside 1 600 (u16 p 12) ∨
  (∃ k < 10, 24 ≤ u8 p (14 + k) ∧ u8 p (14 + k) ≠ 0xFF) ∨
  (∃ j < 8, ∃ k < 8, j < k ∧ u8 p (16 + j) = 0xFF ∧ u8 p (16 + k) ≠ 0xFF)

/-- CFG_LINE: index, role, polarity, debounce time, stuck limit, zone, and a target that does not suit the role (R23, R174). -/
abbrev LineOutOfRange (p : List Byte) : Prop :=
  40 ≤ u8 p 0 ∨ 6 ≤ u8 p 1 ∨ 2 ≤ u8 p 2 ∨ Outside 5 100 (u8 p 3) ∨ u8 p 4 = 1 ∨ 120 < u8 p 4 ∨ 4 ≤ u8 p 5 ∨
  ((u8 p 1 = 0 ∨ u8 p 1 = 3 ∨ u8 p 1 = 5) ∧ u8 p 6 ≠ 0xFF) ∨
  (u8 p 1 = 1 ∧ 12 ≤ u8 p 6) ∨ (u8 p 1 = 2 ∧ 6 ≤ u8 p 6) ∨ (u8 p 1 = 4 ∧ 8 ≤ u8 p 6)

/-- CFG_AXIS: each field's range, a bit above the flags named, acc and the homing speed against vmax, the soft limits against one
another, and a park position that is given, flag 3, against the soft limits (R80, R174). -/
abbrev AxisOutOfRange (p : List Byte) : Prop :=
  8 ≤ u8 p 0 ∨ 16 ≤ u8 p 1 ∨ Outside 1 60 (u8 p 2) ∨ Outside 1 32767 (u16 p 3) ∨ Outside 1 4095 (u16 p 5) ∨
  u16 p 3 < u16 p 5 ∨ Outside 1 4095 (u16 p 7) ∨ Outside 10 2000 (u16 p 9) ∨ Outside (-8000000) 8000000 (i32 p 11) ∨
  Outside (-8000000) 8000000 (i32 p 15) ∨ i32 p 15 < i32 p 11 ∨ Outside (-8000000) 8000000 (i32 p 19) ∨
  Outside 1 (u16 p 3) (u16 p 23) ∨ Outside 1 16000000 (u32 p 25) ∨
  (8 ≤ u8 p 1 ∧ Outside (i32 p 11) (i32 p 15) (i32 p 29)) ∨ 6 ≤ u8 p 33 ∨ 1000 < u16 p 36

/-- A first step and a count of STEP_WRITE and STEP_READ (R58, R59). -/
abbrev StepsOutOfRange (p : List Byte) : Prop := 1023 < u16 p 0 ∨ u8 p 2 = 0 ∨ 4 < u8 p 2 ∨ 1024 < u16 p 0 + u8 p 2

/-- A first place and a count, of which at most `most`, in a table of `size` places (R37, R43, R168). -/
abbrev PlacesOutOfRange (size most : Nat) (p : List Byte) : Prop :=
  size ≤ u8 p 0 ∨ u8 p 1 = 0 ∨ most < u8 p 1 ∨ size < u8 p 0 + u8 p 1
end Sys2Proof.Claims

open Sys2Proof Sys2Proof.Machine Sys2Proof.Claims Sys2Proof.Safety

/-! ### The queue of commands, time and resets -/

/-- A step takes the command at the front of the queue and runs it with the queue's rest. -/
def Obligations.StepRunsTheFrontCommand : Prop :=
  ∀ (c : Instr) (rest : List Instr) (s : State), s.pending = c :: rest →
    step s = exec c { s with pending := rest }

/-- With no command waiting, time passes (the model's choice, log 1 and log 4): threshold events that are due are queued at
the same millisecond; else the time base and the flash phase advance by one millisecond, wrapping, and exactly what falls due
then is queued, STARTED first, the rest in some order (log 5), in which the entries that become senior keep the order of the
demand queue (R48) and the escalations the order of their slots (R150). Nothing else changes but the choices drawn. -/
def Obligations.IdleStepQueuesWhatFallsDue : Prop :=
  ∀ s : State, s.pending = [] → ∃ t, step s = .next t ∧
    t = { (if thresholds s = [] then { s with now := s.now + 1, lamps := { s.lamps with half := s.lamps.half + 1 } } else s)
          with pending := t.pending, arb := t.arb, drawn := t.drawn } ∧
    (thresholds s ≠ [] → t.pending.Perm (thresholds s)) ∧
    (thresholds s = [] → ∃ q, t.pending = (if s.link.startedDue.isSome then [.started] else []) ++ q ∧
      q.Perm (timersDue { s with now := s.now + 1, lamps := { s.lamps with half := s.lamps.half + 1 } })) ∧
    (thresholds s = [] →
      (t.pending.filterMap fun c => match c with
        | .entryBecomesSenior st => some st
        | _ => none) =
      (s.admission.queue.filter fun e => e.senior = false ∧ s.gallery.cfg.starve ≠ 0 ∧
        s.gallery.cfg.starve * 1000 ≤ (s.now + 1 - e.arrival).toNat).map fun e => e.station) ∧
    (thresholds s = [] →
      (t.pending.filterMap fun c => match c with
        | .escalationDeadlineExpiry i => some i
        | _ => none) =
      slotIds.filter fun i => (s.slot i).any fun e => ranOut { s with now := s.now + 1 } e.deadline)

/-- RESET_PIN gives every field of the part its reset value, but for the commands that wait and the choices among unordered
deliveries, which are not the part's (log 1, log 5). The reset values are those the rules state: R1 mode and flag, R7 and R8
stations, R62 players, R23 and R25 lines, R39, R44, R47, R54 and R55 admission, R80 and R82 axes, R105, R113, R115 and
R117 bridges, R121 groups, R132 supply, R139 lamps, R146 and R149 sound, R150 and R157 alerts, R169, R171, R172, R175, R177
and R179 link; and a store of END steps (R58). The flag homingLost and the fields closing, half, resetting and tx that hold how
far a thing has come are the model's own. -/
def Obligations.ResetValuesAsStated : Prop :=
  (∀ s : State, exec .resetPin s = .next { State.reset with arb := s.arb, drawn := s.drawn, pending := s.pending }) ∧
  let s := State.reset
  s.now = 0 ∧ s.gallery.mode = .closed ∧ s.gallery.safetyFixed = false ∧ s.gallery.closing = .none ∧
  s.gallery.cfg.capacity = 0 ∧ s.gallery.cfg.starve = 0 ∧ s.gallery.cfg.escalation = 0 ∧ s.gallery.cfg.chimeRepeat = 60 ∧
  s.gallery.cfg.pwmKhz = 20 ∧ s.gallery.cfg.deadTime = 4 ∧ (∀ z, s.volume z = 8) ∧
  (∀ st, s.station st = {
    cfg := { enabled := false, zone := 0, axes := 0, windowBase := 0, sizeCode := 0, cooldown := 0, tripLevel := 0, leak := 1000,
             rest := 60, ready := none, wait := none, group := [] },
    state := .unconfigured, tally := 0, restOwed := false, cause := none, cooldownAt := none, restAt := none, leakAt := none,
    flashAt := none,
    player := { state := .idle, current := 0, wait := .none, waitAxes := 0, reported := 0, deadline := none, remaining := 0,
                loopCount := 0, loopMark := none, trigger := none, lastFault := none } }) ∧
  (∀ l, (s.line l).cfg = { role := .unused, activeLow := false, debounce := 20, stuckLimit := 0, zone := 0 } ∧
    (s.line l).count = 0 ∧ (s.line l).pressed = false ∧ (s.line l).released = false ∧ (s.line l).stuck = false ∧
    (s.line l).stuckAt = none ∧ (s.line l).fresh = true) ∧ s.lines.sampled = false ∧
  s.admission.queue = [] ∧ s.admission.claimed = 0 ∧ s.admission.hold = false ∧ s.admission.homingWait = 0 ∧
  s.admission.parkingWait = 0 ∧
  (∀ a, s.axis a = {
    cfg := { enabled := false, ratedDraw := 1, vmax := 256, acc := 16, feLimit := 200, feTime := 200, softMin := -8000000,
             softMax := 8000000, homePositive := false, homePos := 0, homingSpeed := 64, travel := 16000000, park := none,
             group := 0, kp := 0, kf := 0, dutymax := 0, encInvert := false },
    state := .unconfigured, owner := .none, homed := false, offset := 0, cmd := 0, target := none, vel := 0, negative := false,
    override := 100, stopReq := none, phase := none, homingLost := false, feTimer := none, faultKind := none, braked := true }) ∧
  s.axes.derate = 100 ∧
  (∀ a, s.bridge a = { out := .float, first := .off, second := .off, buffered := 0, loaded := 0, raw := 0, held := none, err := 0 }) ∧
  s.drive.pwmKhz = 20 ∧ s.drive.deadTime = 4 ∧
  (∀ g, s.group g = { zone := 0, state := .unarmed, brokenLines := 0 }) ∧
  s.safety.supply.cfg = { warn := 0, trip := 0, hyst := 0, warnConfirm := 8, tripConfirm := 2, recovery := 1000 } ∧
  s.safety.supply.state = .normal ∧ s.safety.supply.warnCount = 0 ∧ s.safety.supply.tripCount = 0 ∧
  s.safety.supply.recoveryAt = none ∧
  (∀ i, s.lamp i = .off) ∧ s.lamps.lit = true ∧ s.lamps.half = 0 ∧
  (∀ z, (s.tone z).playing = false ∧ (s.tone z).effective = 0 ∧ (s.tone z).output = 0) ∧
  s.sound.chime.state = .silent ∧ s.sound.chime.output = 0 ∧
  (∀ i, s.slot i = none) ∧ s.alerts.masks = 0 ∧ s.alerts.quiet = false ∧ s.alerts.overflow = false ∧
  s.alerts.chimeRepeatAt = none ∧ (∀ z, s.alerts.beacon z = .off) ∧
  s.link.rate = 4 ∧ s.link.gap = 10 ∧ s.link.fifo = [] ∧ s.link.gapAt = none ∧ s.link.framer = .hunt ∧
  s.link.heldFrame = none ∧ s.link.replies = [] ∧ s.link.notices = [] ∧ s.link.tx = .idle ∧ s.link.noticesLost = false ∧
  s.link.enables = 0x39 ∧ s.link.resetting = false ∧ s.link.startedDue = some .pin ∧
  (∀ i, (s.stepRecord i).all fun b => b = 0)

/-! ### The request handler -/

/-- IDENT and STATUS carry no payload and are accepted in every mode. IDENT names the part and changes nothing (R182). STATUS
reads everything at its event and then clears the notices-lost flag, which a notice dropped later sets anew (R183). -/
def Obligations.IdentAndStatusAnswerInEveryMode : Prop :=
  (∀ (s : State) (tag : Byte) (p : List Byte), LinkFree s →
    (p = [] → exec (.ident tag p) s =
      .next (replied 0x01 tag [0, 0x57, 0x40, 0x06, 3, 40, 24, 8, 12, 6, 0x00, 0x04, 8, 24] 0 .none s)) ∧
    (p ≠ [] → exec (.ident tag p) s = .next (refused 0x01 tag .badLength s))) ∧
  (∀ (s : State) (tag : Byte) (p : List Byte), LinkFree s →
    (p ≠ [] → exec (.status tag p) s = .next (refused 0x02 tag .badLength s)) ∧
    exec (.status tag []) s = .next (reported 0x02 tag
      ([s.gallery.mode.code,
        byte ((if s.gallery.safetyFixed then 1 else 0) + (if s.link.noticesLost then 2 else 0)
          + (if s.alerts.overflow then 4 else 0) + (if s.admission.hold then 8 else 0)),
        s.safety.supply.state.code] ++ le16 s.safety.supply.latest
        ++ [(s.group 0).state.code, (s.group 1).state.code, (s.group 2).state.code, (s.group 3).state.code,
            (s.group 4).state.code, (s.group 5).state.code]
        ++ le32 s.now.toNat ++ [byte s.link.enables.toNat, byte s.link.notices.length])
      { s with link := { s.link with noticesLost := false } })) ∧
  (∀ (t : State) (c : NoticeClass) (ty : Byte) (p : List Byte), hasBit t.link.enables c.bit = true → 32 ≤ t.link.notices.length →
    sendNotice c ty p t = { t with link := { t.link with noticesLost := true } })

/-- NOTICE_ENABLE, in every mode, replaces the seven enables by its set, which governs the notices sent from then on, or is
refused for a bit above them; notices already queued and the STARTED notice are not touched (R178). -/
def Obligations.NoticeEnableReplacesTheSet : Prop :=
  ∀ (s : State) (tag b : Byte), LinkFree s →
    (b.toNat < 128 → ∃ t, exec (.noticeEnable tag [b]) s = .next (accepted 0x05 tag s t) ∧
      (∀ c : NoticeClass, hasBit t.link.enables c.bit = hasBit b c.bit) ∧
      t = { s with link := { s.link with enables := t.link.enables } } ∧
      ∀ (c : NoticeClass) (ty : Byte) (p : List Byte),
        sendNotice c ty p t = if hasBit b c.bit then pushNotice ⟨ty, 0, p⟩ t else t) ∧
    (128 ≤ b.toNat → exec (.noticeEnable tag [b]) s = .next (refused 0x05 tag .badValue s))

/-- SET_LINK is accepted for a rate code 0..6 and a gap time of 2..100 ms; both take effect, and the frame in progress is
discarded, when its reply has been sent (R180). After RESET the handler takes no further frame, and when its reply has been
sent the part is reset, the rate and the gap time kept (R181). After either reset STARTED falls due: it takes the front of the
notice queue, whatever the enables hold, and is at once the frame in transmission (R179). The model's choices: that a request row
which comes while a RESET is being answered is held (log 6, DESIGN CHOICE), the place kept for STARTED and the transmitter that
waits for it (log 42), that a gap timer which runs keeps its end at SET_LINK (log 48, DESIGN CHOICE), and that a STARTED which is
not due does nothing (log 3). -/
def Obligations.SetLinkResetAndStarted : Prop :=
  (∀ (s : State) (tag r g : Byte), LinkFree s →
    exec (.setLink tag [r, g]) s = .next
      (if r.toNat ≤ 6 ∧ 2 ≤ g.toNat ∧ g.toNat ≤ 100 then replied 0x04 tag [0] 0 (.setLink r.toNat g.toNat) s
       else refused 0x04 tag .badValue s)) ∧
  (∀ (s : State) (x : Reply) (xs : List Reply) (bytes : List Byte) (rate gap : Nat),
    s.link.tx = .reply bytes → s.link.replies = x :: xs → x.effect = .setLink rate gap → s.link.fifo = [] →
    s.link.heldFrame = none →
    exec .frameSent s = .next (kickTx { s with link := { s.link with
      tx := .idle, replies := xs, rate := rate, gap := gap, framer := .hunt } })) ∧
  (∀ (s : State) (tag : Byte), LinkFree s →
    exec (.resetReq tag []) s = .next (replied 0x03 tag [0] 0 .reset { s with link := { s.link with resetting := true } })) ∧
  (∀ (c : Instr) (s : State) (ty tag : Byte) (p : List Byte), requestOf c = some (ty, tag, p) → s.link.resetting = true →
    s.link.heldFrame = none →
    exec c s = .next (kickTx { s with link := { s.link with heldFrame := some ⟨ty, tag, p⟩ } })) ∧
  (∀ (s : State) (x : Reply) (xs : List Reply) (bytes : List Byte),
    s.link.tx = .reply bytes → s.link.replies = x :: xs → x.effect = .reset →
    exec .frameSent s = .next
      { State.reset with
        link := { State.reset.link with rate := s.link.rate, gap := s.link.gap, startedDue := some .request },
        arb := s.arb, drawn := s.drawn, pending := s.pending }) ∧
  (∀ (s : State) (c : ResetCause), s.link.startedDue = some c →
    kickTx s = s ∧
    exec .started s = .next { s with link := { s.link with
      startedDue := none, notices := ⟨0x40, 0, [c.code, byte s.link.rate, 3]⟩ :: s.link.notices,
      tx := .notice (Frame.encode ⟨0x40, 0, [c.code, byte s.link.rate, 3]⟩),
      replies := s.link.replies.map fun r => { r with waits := if r.waits = 0 then 0 else r.waits + 1 } } }) ∧
  (∀ s : State, s.link.startedDue = none → exec .started s = .next (kickTx s)) ∧ State.reset.link.startedDue = some .pin

/-- A TYPE that is no request code is answered UNKNOWN_TYPE, a payload length that the catalogue does not give for the TYPE
BAD_LENGTH, and each of the six configuration requests outside CLOSED WRONG_MODE; none of these changes anything (R174, R1). That
the TYPE of a reply wraps for a TYPE of 0x80 or above (log 32), and that a QUERY_AXIS of one byte has a bad length (log 30), are the
model's readings, both DEDUCED. -/
def Obligations.RequestsAreJudgedByTypeLengthAndMode : Prop :=
  ∀ (c : Instr) (s : State) (ty tag : Byte) (p : List Byte), LinkFree s → requestOf c = some (ty, tag, p) →
    (ty ∉ requestCodes → exec c s = .next (refused ty tag .unknownType s)) ∧
    (ty ∈ requestCodes → p.length ∉ lengthsOf ty → exec c s = .next (refused ty tag .badLength s)) ∧
    (ty ∈ ([0x10, 0x11, 0x12, 0x13, 0x14, 0x15] : List Byte) → p.length ∈ lengthsOf ty → s.gallery.mode ≠ .closed →
      exec c s = .next (refused ty tag .wrongMode s))

/-! ### Receiving and sending -/

/-- The framer, from HUNT, reads from the bytes of any frame that can be sent exactly that frame; with any other CHECK byte it
reads none; either way it is back in HUNT (R170, R172). -/
def Obligations.FramerReadsWhatTheTransmitterForms : Prop :=
  ∀ (f : Frame) (check : Byte), f.payload.length ≤ 60 →
    feed .hunt f.encode = (.hunt, [f]) ∧
    (f.encode.length = f.payload.length + 5) ∧
    (feed .hunt (f.encode.dropLast ++ [check]) = (.hunt, if f.encode.getLast? = some check then [f] else []))

/-- A request that comes while four replies are queued is held; a sent reply leaves its queue, and then a held request is
taken; a sent notice leaves its queue and brings each waiting reply one notice nearer (R173, R175). An idle transmitter starts
the oldest reply if it is ready, else the oldest notice; a busy one starts nothing; a notice of an enabled class is appended
while there is room, else it is dropped and the notices-lost flag set (R176, R177). The model's choices: that a request row which
comes while four replies are queued is held as a frame would be (log 6, DESIGN CHOICE), that FRAME_SENT of an idle transmitter
changes nothing else (log 3), and that while STARTED is due no frame is started and one place of the notice queue is kept
(log 42). -/
def Obligations.FramesLeaveTheirQueuesInOrder : Prop :=
  (∀ (c : Instr) (s : State) (ty tag : Byte) (p : List Byte), requestOf c = some (ty, tag, p) →
    4 ≤ s.link.replies.length → s.link.heldFrame = none →
    exec c s = .next (kickTx { s with link := { s.link with heldFrame := some ⟨ty, tag, p⟩ } })) ∧
  (∀ (s : State) (x : Reply) (xs : List Reply) (bytes : List Byte), s.link.tx = .reply bytes → s.link.replies = x :: xs →
    x.effect = .none → s.link.fifo = [] →
    (s.link.heldFrame = none →
      exec .frameSent s = .next (kickTx { s with link := { s.link with tx := .idle, replies := xs } })) ∧
    (∀ (c : Instr) (ty tag : Byte) (p : List Byte), requestOf c = some (ty, tag, p) → s.link.heldFrame = some ⟨ty, tag, p⟩ →
      xs.length < 4 → s.link.resetting = false →
      exec .frameSent s = exec c { s with link := { s.link with tx := .idle, replies := xs, heldFrame := none } })) ∧
  (∀ (s : State) (bytes : List Byte), s.link.tx = .notice bytes →
    exec .frameSent s = .next (kickTx { s with link := { s.link with
      tx := .idle, notices := s.link.notices.tail,
      replies := s.link.replies.map fun r => { r with waits := r.waits - 1 } } })) ∧
  (∀ s : State,
    (s.link.tx = .idle → exec .frameSent s = .next (kickTx s)) ∧
    (s.link.tx ≠ .idle ∨ s.link.startedDue ≠ none → kickTx s = s) ∧
    (∀ (r : Reply) (rs : List Reply), s.link.tx = .idle → s.link.startedDue = none → s.link.replies = r :: rs → r.waits = 0 →
      kickTx s = { s with link := { s.link with tx := .reply r.frame.encode } }) ∧
    (∀ (f : Frame) (fs : List Frame), s.link.tx = .idle → s.link.startedDue = none →
      (∀ r ∈ s.link.replies.head?, r.waits ≠ 0) →
      s.link.notices = f :: fs → kickTx s = { s with link := { s.link with tx := .notice f.encode } }) ∧
    (s.link.notices = [] → (∀ r ∈ s.link.replies.head?, r.waits ≠ 0) → kickTx s = s) ∧
    (∀ (c : NoticeClass) (ty : Byte) (p : List Byte),
      sendNotice c ty p s =
        if hasBit s.link.enables c.bit then
          if s.link.notices.length < room s then { s with link := { s.link with notices := s.link.notices ++ [⟨ty, 0, p⟩] } }
          else { s with link := { s.link with noticesLost := true } }
        else s))

/-- A byte restarts the gap timer; with none waiting the framer takes it, behind a held frame that the handler cannot take it
waits in the FIFO, and in a full FIFO it is lost with an interruption recorded; a framing error, a break and the end of the gap
timer are interruptions (R171 to R173). That a byte with a framing error restarts the gap timer is the model's choice (log 19),
and so is that GAP_EXPIRY does nothing unless the gap timer runs and has reached its end (log 2). -/
def Obligations.ReceiverTakesBytesAndInterruptions : Prop :=
  ∀ (s : State) (b : Byte),
    (s.link.fifo = [] → s.link.heldFrame = none → (s.link.framer.take b).2 = none →
      exec (.rxByte b) s = .next (kickTx { s with link := { s.link with
        gapAt := gapNow s, framer := (s.link.framer.take b).1 } })) ∧
    (∀ (c : Instr) (ty tag : Byte) (p : List Byte), requestOf c = some (ty, tag, p) → LinkFree s → s.link.fifo = [] →
      (s.link.framer.take b).2 = some ⟨ty, tag, p⟩ →
      exec (.rxByte b) s = exec c { s with link := { s.link with gapAt := gapNow s, framer := (s.link.framer.take b).1 } }) ∧
    (s.link.fifo.length < 64 → s.link.heldFrame.isSome → s.link.resetting = true ∨ 4 ≤ s.link.replies.length →
      exec (.rxByte b) s = .next (kickTx { s with link := { s.link with
        gapAt := gapNow s, fifo := s.link.fifo ++ [(b, false)] } })) ∧
    (64 ≤ s.link.fifo.length →
      exec (.rxByte b) s = .next (kickTx { s with link := interrupted { s.link with gapAt := gapNow s } })) ∧
    exec .framingError s = .next (kickTx { s with link := interrupted { s.link with gapAt := gapNow s } }) ∧
    exec .linkBreak s = .next (kickTx { s with link := interrupted s.link }) ∧
    exec .gapExpiry s = .next (kickTx (if ranOut s s.link.gapAt = true then
      { s with link := interrupted { s.link with gapAt := none } } else s))


/-! ### Configuration and the step store -/

/-- CFG_GALLERY in CLOSED: fields out of range are refused; then a new drive capacity while the safety settings are fixed, and
one below the claimed total; otherwise its fields are stored, deadlines set anew where the escalation time changes, and the
tones that play scaled anew (R44, R22, R147, R157; the level of a wave at such a change is log 15). -/
def Obligations.CfgGalleryAppliesItsFields : Prop :=
  ∀ (s : State) (tag : Byte), LinkFree s → s.gallery.mode = .closed →
    (∀ p : List Byte, p.length = 13 → (∀ c, galleryInRange c = true → p ≠ galleryBytes c) →
      exec (.cfgGallery tag p) s = .next (refused 0x10 tag .badValue s)) ∧
    (∀ c : GalleryCfg, galleryInRange c = true →
      (s.gallery.safetyFixed = true → c.capacity ≠ s.gallery.cfg.capacity →
        exec (.cfgGallery tag (galleryBytes c)) s = .next (refused 0x10 tag .fixed s)) ∧
      ((s.gallery.safetyFixed = true → c.capacity = s.gallery.cfg.capacity) → c.capacity < s.admission.claimed →
        exec (.cfgGallery tag (galleryBytes c)) s = .next (refused 0x10 tag .busy s)) ∧
      ((s.gallery.safetyFixed = true → c.capacity = s.gallery.cfg.capacity) → s.admission.claimed ≤ c.capacity →
        ∃ t, exec (.cfgGallery tag (galleryBytes c)) s = .next (accepted 0x10 tag s t) ∧
          t = { s with gallery := { s.gallery with cfg := c }, sound := { s.sound with tones := t.sound.tones },
                       alerts := { s.alerts with slots := t.alerts.slots } } ∧
          (∀ z, t.tone z = if (s.tone z).playing then
              { s.tone z with
                effective := (s.tone z).amplitude * c.volumes.get z / 15,
                level := (s.tone z).level && decide ((s.tone z).amplitude * c.volumes.get z / 15 ≠ 0) }
            else s.tone z) ∧
          (∀ i, t.slot i = (s.slot i).map fun e =>
            if c.escalation = s.gallery.cfg.escalation then e
            else { e with deadline := (if e.acked = false ∧ e.severity = .attend ∧ c.escalation ≠ 0
                then some (s.now + BitVec.ofNat 32 (c.escalation * 1000)) else none) })))

/-- CFG_STATION in CLOSED stores its record with the base aligned, turns the lamp lines of the old and the new record OFF and
starts the station over; a field out of range, and a record with a lamp line named twice or one held by another station, is
refused (R7, R60, R140; the enabled byte R174). -/
def Obligations.CfgStationReplacesTheRecord : Prop :=
  ∀ (s : State) (tag : Byte), LinkFree s → s.gallery.mode = .closed →
    (∀ p : List Byte, p.length = 24 → StationOutOfRange p →
      exec (.cfgStation tag p) s = .next (refused 0x11 tag .badValue s)) ∧
    ∀ (st : StationId) (r : StationRec), r.windowBase ≤ 1023 → r.sizeCode ≤ 255 → r.cooldown ≤ 60000 → (r.tripLevel = 0 ∨ 2 ≤ r.tripLevel ∧ r.tripLevel ≤ 31) →
    100 ≤ r.leak → r.leak ≤ 5000 → 1 ≤ r.rest → r.rest ≤ 600 → r.group.length ≤ 8 →
    let old := s.station st
    let taken := ∃ o, o ≠ st ∧ ∃ i ∈ (s.station o).cfg.lampLines, i ∈ r.lampLines
    let base := if 3 ≤ r.sizeCode ∧ r.sizeCode ≤ 8 then r.windowBase - r.windowBase % 2 ^ r.sizeCode else r.windowBase
    let new := if r.enabled then StState.standby else .unconfigured
    (¬ r.lampLines.Nodup ∨ taken →
      exec (.cfgStation tag (stationBytes st r)) s = .next (refused 0x11 tag .badValue s)) ∧
    (r.lampLines.Nodup → ¬ taken → ∃ t, exec (.cfgStation tag (stationBytes st r)) s = .next (accepted 0x11 tag s t) ∧
      t = { s with stations := t.stations, lamps := { s.lamps with lamps := t.lamps.lamps }, link := t.link } ∧
      t.station st = { cfg := { r with windowBase := base }, state := new, player := old.player } ∧
      (∀ o, o ≠ st → t.station o = s.station o) ∧
      (∀ i, t.lamp i = if i ∈ old.cfg.lampLines ∨ i ∈ r.lampLines then .off else s.lamp i) ∧
      t.link = if old.state = new ∧ old.cause = none then s.link
        else (sendNotice .station 0x42 [byte st.val, new.code, 0xFF] s).link)

/-- CFG_LINE in CLOSED: a field out of range and an axis that has another home line are refused, then a change of a safety setting while these are
fixed; otherwise the line starts afresh in its new configuration: its flags, count and stuck timer cleared, a stuck condition
ended, and its next sample sets its debounced level. A GUARD line whose level was active leaves the broken set of its old group.
An UNHOMED axis that loses its home line stands homed at zero, clamped into its limits; a HOMING one is asked for a controlled
stop with DISCARD (R22 to R24, R81, R84, R90, R125; the role and polarity bytes R174). That the debounced level becomes inactive when the old role is GUARD and is
kept otherwise is the model's choice (log 16), as are the raw level that is kept (log 22, DEDUCED), that a HOMING axis stays HOMING,
at velocity 0 too, with the flag homingLost set (log 36, DESIGN CHOICE; log 17, DEDUCED), and that an axis in any other state is
left as it is (log 38 for an unhomed axis that moves). -/
def Obligations.CfgLineStartsTheLineAfresh : Prop :=
  ∀ (s : State) (tag : Byte), LinkFree s → s.gallery.mode = .closed →
    (∀ p : List Byte, p.length = 7 → LineOutOfRange p → exec (.cfgLine tag p) s = .next (refused 0x12 tag .badValue s)) ∧
    ∀ (l : LineId) (c : LineCfg), Settled s → lineInRange c = true →
    let x := s.line l
    let run := exec (.cfgLine tag (lineBytes l c)) s
    let taken := ∃ a o, c.role = .home a ∧ o ≠ l ∧ (s.line o).cfg.role = .home a
    let changes := s.gallery.safetyFixed = true ∧ lineSafety x.cfg ≠ lineSafety c
    let fresh : Line := { cfg := c, raw := x.raw, debounced := x.debounced && (lineSafety x.cfg).isNone, count := 0,
                          pressed := false, released := false, stuck := false, stuckAt := none, fresh := true }
    (taken → run = .next (refused 0x12 tag .badValue s)) ∧
    (¬ taken → changes → run = .next (refused 0x12 tag .fixed s)) ∧
    (¬ taken → ¬ changes → x.stuck = false →
      (∀ g, x.cfg.role = .guard g → x.debounced = false) → (∀ a, x.cfg.role = .home a → c.role = .home a) →
      run = .next (accepted 0x12 tag s (s.setLine l fresh))) ∧
    (¬ taken → ¬ changes → x.stuck = true → alertKeysDistinct s.alerts = true →
      (∀ g, x.cfg.role ≠ .guard g) → (∀ a, x.cfg.role = .home a → c.role = .home a) →
      ∃ t, run = .next (accepted 0x12 tag s t) ∧ t.line l = fresh ∧ (∀ o, o ≠ l → t.line o = s.line o) ∧
        t.axes = s.axes ∧ t.stations = s.stations ∧ t.safety = s.safety ∧
        ∀ i e, t.slot i = some e → e.kind = .inputStuck → e.source = .line l → e.active = false) ∧
    (¬ taken → ¬ changes → x.stuck = false → ∀ g, x.cfg.role = .guard g → x.debounced = true →
      hasBit (s.group g).brokenLines l.val = true →
      ∃ t, run = .next (accepted 0x12 tag s t) ∧ t.line l = fresh ∧ (∀ o, o ≠ l → t.line o = s.line o) ∧
        t.group g = { s.group g with
          brokenLines := delBit (s.group g).brokenLines l.val,
          state := if delBit (s.group g).brokenLines l.val = 0 then .unarmed else (s.group g).state } ∧
        (∀ h, h ≠ g → t.group h = s.group h) ∧ t.axes = s.axes ∧ t.stations = s.stations) ∧
    (¬ taken → ¬ changes → x.stuck = false → ∀ a, x.cfg.role = .home a → c.role ≠ .home a →
      ((s.axis a).state = .unhomed →
        ∃ t, run = .next (accepted 0x12 tag s t) ∧ t.line l = fresh ∧ (∀ o, o ≠ l → t.line o = s.line o) ∧
          t.axis a = { s.axis a with
            state := .idle, homed := true, target := none,
            offset := clampInt (s.axis a).cfg.softMin (s.axis a).cfg.softMax 0 - (s.bridge a).raw,
            cmd := clampInt (s.axis a).cfg.softMin (s.axis a).cfg.softMax 0 * 256 } ∧
          (∀ b, b ≠ a → t.axis b = s.axis b)) ∧
      ((s.axis a).state = .homing →
        run = .next (accepted 0x12 tag s ((s.setLine l fresh).setAxisQuiet a
          { s.axis a with target := none, stopReq := some .discard, homingLost := true }))) ∧
      ((s.axis a).state ≠ .unhomed → (s.axis a).state ≠ .homing →
        run = .next (accepted 0x12 tag s (s.setLine l fresh))))

/-- CFG_AXIS in CLOSED: refused for a field out of range, for a changed safety setting while these are fixed, then for an owned axis; otherwise the
record is replaced and the axis restarted, its error count is 0, its bridge is in BRAKE or FLOAT, and whether it is braked by
safety is judged anew with its new group (R80, R81, R109, R115, R117, R122; the flags byte R174). -/
def Obligations.CfgAxisReplacesTheRecord : Prop :=
  ∀ (s : State) (tag : Byte), LinkFree s → s.gallery.mode = .closed →
    (∀ p : List Byte, p.length = 38 → AxisOutOfRange p → exec (.cfgAxis tag p) s = .next (refused 0x13 tag .badValue s)) ∧
    ∀ (a : AxisId) (r : AxisRec) (idle : Int), Settled s → axisInRange r = true → r.kp ≤ 255 → r.kf ≤ 255 →
    let x := s.axis a
    let raw := (s.bridge a).raw
    let run := exec (.cfgAxis tag (axisRequest a r idle)) s
    let changes := s.gallery.safetyFixed = true ∧ axisSafety x.cfg ≠ axisSafety r
    let home := ∃ l, (s.line l).cfg.role = .home a
    let zero := clampInt r.softMin r.softMax 0
    (changes → run = .next (refused 0x13 tag .fixed s)) ∧
    (¬ changes → x.owner ≠ .none → run = .next (refused 0x13 tag .busy s)) ∧
    (¬ changes → x.owner = .none → ∃ t, run = .next (accepted 0x13 tag s t) ∧
      (t.axis a).cfg = r ∧ (t.axis a).owner = .none ∧ (t.axis a).vel = 0 ∧ (t.axis a).target = none ∧
      (t.axis a).stopReq = none ∧ (t.axis a).phase = none ∧ (t.axis a).feTimer = none ∧ (t.axis a).faultKind = none ∧
      (r.enabled = false → (t.axis a).state = .unconfigured ∧ (t.axis a).homed = false ∧ (t.axis a).offset = 0 ∧
        (t.axis a).cmd = 0) ∧
      (r.enabled = true → home → (t.axis a).state = .unhomed ∧ (t.axis a).homed = false ∧
        (t.axis a).offset = x.offset ∧ (t.axis a).cmd = (raw + x.offset) * 256) ∧
      (r.enabled = true → ¬ home → (t.axis a).state = .idle ∧ (t.axis a).homed = true ∧
        (t.axis a).offset = zero - raw ∧ (t.axis a).cmd = zero * 256) ∧
      ((t.axis a).braked = true ↔ (s.group r.group).state ≠ .clear ∨ s.safety.supply.state = .tripped
        ∨ s.safety.supply.state = .recovering) ∧
      (t.bridge a).raw = raw ∧ (t.bridge a).err = 0 ∧
      (t.bridge a).held = (if x.state = .unconfigured then none else (s.bridge a).held) ∧
      (t.bridge a).out = (if r.enabled then .brake else .float) ∧
      (∀ b, b ≠ a → t.axis b = s.axis b ∧ t.bridge b = s.bridge b))

/-- CFG_GUARD stores a group's zone and CFG_SUPPLY the supply settings, both in CLOSED, refused when out of range and when a
value would change while the safety settings are fixed (R121, R132, R22). -/
def Obligations.CfgGuardAndCfgSupplyStoreTheirFields : Prop :=
  ∀ (s : State) (tag : Byte), LinkFree s → s.gallery.mode = .closed →
    (∀ g z : Byte, exec (.cfgGuard tag [g, z]) s = .next (
      if h : g.toNat < 6 ∧ z.toNat < 4 then
        if s.gallery.safetyFixed = true ∧ (s.group ⟨g.toNat, h.1⟩).zone ≠ ⟨z.toNat, h.2⟩ then refused 0x14 tag .fixed s
        else accepted 0x14 tag s (s.setGroup ⟨g.toNat, h.1⟩ { s.group ⟨g.toNat, h.1⟩ with zone := ⟨z.toNat, h.2⟩ })
      else refused 0x14 tag .badValue s)) ∧
    (∀ p : List Byte, p.length = 9 → (∀ c, supplyInRange c = true → p ≠ supplyBytes c) →
      exec (.cfgSupply tag p) s = .next (refused 0x15 tag .badValue s)) ∧
    (∀ c : SupplyCfg, supplyInRange c = true →
      exec (.cfgSupply tag (supplyBytes c)) s = .next (
        if s.gallery.safetyFixed = true ∧ c ≠ s.safety.supply.cfg then refused 0x15 tag .fixed s
        else accepted 0x15 tag s { s with safety := { s.safety with supply :=
          { s.safety.supply with
            cfg := c, warnCount := 0, tripCount := 0,
            recoveryAt := s.safety.supply.recoveryAt.map fun _ => s.now + BitVec.ofNat 32 c.recovery } } }))

/-- STEP_WRITE stores whole records, in every mode, unless the steps or their count are out of range, the payload does not hold
as many as counted, or a playing station uses one of them; STEP_READ reads records back as they stand in the store, unless the
range is out of the store (R58, R59). -/
def Obligations.StepRecordsAreWrittenAndReadBack : Prop :=
  ∀ (s : State) (tag : Byte), LinkFree s →
    (∀ p : List Byte, p.length = 3 → StepsOutOfRange p → exec (.stepRead tag p) s = .next (refused 0x17 tag .badValue s)) ∧
    (∀ p : List Byte, p.length ∈ [15, 27, 39, 51] → StepsOutOfRange p ∨ p.length ≠ 3 + 12 * u8 p 2 →
      exec (.stepWrite tag p) s = .next (refused 0x16 tag .badValue s)) ∧
    ∀ (first : Nat) (recs : List (List Byte)), Memory.wf s.store = true → (∀ r ∈ recs, r.length = 12) → 1 ≤ recs.length → recs.length ≤ 4 →
    let p := le16 first ++ [byte recs.length] ++ recs.flatten
    let used := ∃ st, (s.station st).state ∈ [StState.running, .paused, .stopping] ∧ 3 ≤ (s.station st).cfg.sizeCode ∧
      (s.station st).cfg.sizeCode ≤ 8 ∧ (s.station st).cfg.windowBase < first + recs.length ∧
      first < (s.station st).cfg.windowBase + 2 ^ (s.station st).cfg.sizeCode
    (first + recs.length ≤ 1024 → used → exec (.stepWrite tag p) s = .next (refused 0x16 tag .wrongState s)) ∧
    (first + recs.length ≤ 1024 → ¬ used → ∃ t, exec (.stepWrite tag p) s = .next (accepted 0x16 tag s t) ∧
      t = { s with store := t.store } ∧
      (∀ i, i < 1024 → t.stepRecord i = if first ≤ i then (recs[i - first]?).getD (s.stepRecord i) else s.stepRecord i)) ∧
    (first + recs.length ≤ 1024 →
      exec (.stepRead tag (le16 first ++ [byte recs.length])) s =
        .next (reported 0x17 tag ((List.range recs.length).flatMap fun k => s.stepRecord (first + k)) s))
/-! ### What every step keeps -/

/-- The reset state meets every law that the next statements say a step keeps. -/
def Obligations.ResetMeetsTheLaws : Prop :=
  Memory.wf State.reset.store = true ∧ settingsInRange State.reset = true ∧ countsInRange State.reset = true ∧
  (∀ a, (State.reset.axis a).braked = State.reset.shouldBrake a) ∧
  (∀ g, (State.reset.group g).state ≠ .broken → (State.reset.group g).brokenLines = 0) ∧
  linkLaw State.reset = true ∧ workDone State.reset = true ∧ talliesInRange State.reset = true ∧
  causeLaw State.reset = true ∧ budgetLaw State.reset = true ∧ galleryLaws State.reset = true ∧ motionLaws State.reset = true ∧
  softLimitLaw State.reset = true ∧ outputLaw State.reset = true ∧ dutyLaw State.reset = true ∧ encoderLaw State.reset = true ∧
  alertLaws State.reset.alerts = true ∧ beaconLaw State.reset.alerts = true

/-- Every step keeps the step store in its canonical form, and leaves no work of an event over for a later command (the form of
the store is the model's, log 27; the record of work due, log 11 and log 23). -/
def Obligations.StepKeepsTheStoreCanonical : Prop :=
  (∀ s t : State, step s = .next t → Memory.wf s.store = true → Memory.wf t.store = true) ∧
  (∀ s t : State, step s = .next t → workDone s = true → workDone t = true)

/-- Every step keeps every stored setting in its range: the fields of the gallery, the stations, the lines, the axes and the
supply, with each usable window on a multiple of its size inside the store (R7, R23, R44, R60, R80, R113, R132, R147, R157). -/
def Obligations.StepKeepsSettingsInRange : Prop :=
  ∀ s t : State, step s = .next t → settingsInRange s = true → settingsInRange t = true

/-- While the safety-fixed flag is set, no step changes a safety setting or clears the flag, but a reset, which restores every
record (the law of R22; R181). -/
def Obligations.SafetySettingsStayFixed : Prop :=
  ∀ s t : State, step s = .next t → s.gallery.safetyFixed = true →
    (t.gallery.safetyFixed = true ∧ t.gallery.cfg.capacity = s.gallery.cfg.capacity ∧
      t.safety.supply.cfg = s.safety.supply.cfg ∧ (∀ g, (t.group g).zone = (s.group g).zone) ∧
      (∀ a, axisSafety (t.axis a).cfg = axisSafety (s.axis a).cfg) ∧
      (∀ l, lineSafety (t.line l).cfg = lineSafety (s.line l).cfg)) ∨
    (t.gallery = State.reset.gallery ∧ t.safety = State.reset.safety ∧ t.axes = State.reset.axes ∧
      t.lines = State.reset.lines)

/-- Every step keeps the raw counts within ±2^31 and the encoder error counts within 0..255 (R115, R117), every tally within
0..31 (R8), and the receive FIFO within 64 bytes, the reply queue within 4 replies and the notice queue within 32 notices, with
no reply waiting for more notices than are queued (R171, R175, R177). While STARTED is due, the notice queue keeps a place for
it and no frame is in transmission (the model's choice, log 42). -/
def Obligations.StepKeepsCountsAndQueuesInBounds : Prop :=
  ∀ s t : State, step s = .next t →
    (countsInRange s = true → countsInRange t = true) ∧ (talliesInRange s = true → talliesInRange t = true) ∧
    (linkLaw s = true → linkLaw t = true)

/-- Every step keeps the judgement of R122: an axis is braked by safety exactly while its group is not CLEAR or the supply is
TRIPPED or RECOVERING; and a group that is not BROKEN has no broken line (R123 to R125). -/
def Obligations.StepKeepsTheBrakeJudgement : Prop :=
  ∀ s t : State, step s = .next t →
    (∀ a, (s.axis a).braked = s.shouldBrake a) → (∀ g, (s.group g).state ≠ .broken → (s.group g).brokenLines = 0) →
    (∀ a, (t.axis a).braked = t.shouldBrake a) ∧ (∀ g, (t.group g).state ≠ .broken → (t.group g).brokenLines = 0)

/-- Every step keeps that a station has a stop cause exactly while it is STOPPING (R8), and that the claimed total is the sum of
the rated draws of the owned axes, within the drive capacity (R45). -/
def Obligations.StepKeepsCausesAndTheBudget : Prop :=
  ∀ s t : State, step s = .next t →
    (causeLaw s = true → causeLaw t = true) ∧ (budgetLaw s = true → budgetLaw t = true)

/-- Every step keeps the laws of the gallery together: no station is QUEUED except in OPEN, and none plays in CLOSED or OPENING
(R8), nor in CLOSING once draining is over (R4 to R6); a player that plays, is held or is aborted belongs to a station that is
RUNNING, PAUSED or STOPPING (R62, R75, R78); the queue holds at most 8 entries, one for each QUEUED station and none for others
(R39); a station that plays owns its whole set, and any other owns no axis (R54). -/
def Obligations.StepKeepsTheGalleryLaws : Prop :=
  ∀ s t : State, step s = .next t → galleryLaws s = true → galleryLaws t = true

/-- In a state that keeps the laws of the gallery, with its settings in range, every step keeps the laws of motion: an axis moves
in MOVING, HOMING and STOPPING alone, owned and not braked, with a target in MOVING and STOPPING, with a stop request in STOPPING
and, but for HOMING, in no other state (R82, R87, R90, R97); an axis that GALLERY owns is HOMING, MOVING or STOPPING, never asked
for a stop that keeps its target, so that between two steps its claim has ended where it stands at rest (R54, R56); override and derate are at most 100 percent (R65, R86); no velocity
exceeds vmax, and an axis that is unowned, FAULTED or braked has velocity 0 (R88, R92, R95). Then, too, the commanded position of
a homed axis, in whole counts, and its target stay within its soft limits (R82, R85). -/
def Obligations.StepKeepsMotionWithinItsLimits : Prop :=
  ∀ s t : State, step s = .next t → settingsInRange s = true → galleryLaws s = true → motionLaws s = true →
    motionLaws t = true ∧ (softLimitLaw s = true → softLimitLaw t = true)

/-- Every step keeps the output law: a bridge is in DRIVE only while its axis may be driven, in BRAKE only while it is configured,
in FLOAT only while it is not (R106). Every step keeps the magnitude of both duties of a bridge at most the dutymax of its axis, and
both 0 while the axis may not be driven (R94, R107, R110; that a change to DRIVE which lapses leaves the buffered duty 0 is log 47,
DEDUCED), so that with the settings in range neither is above 1000. With the counts in range it keeps that an axis whose encoder
error count is 255 is FAULTED (R119). -/
def Obligations.StepKeepsTheBridgeLaws : Prop :=
  ∀ s t : State, step s = .next t →
    (outputLaw s = true → outputLaw t = true) ∧
    (dutyLaw s = true → dutyLaw t = true ∧
      ∀ a, (t.bridge a).loaded.natAbs ≤ (t.axis a).cfg.dutymax ∧ (t.bridge a).buffered.natAbs ≤ (t.axis a).cfg.dutymax) ∧
    (settingsInRange s = true → dutyLaw s = true → ∀ a, (t.bridge a).loaded.natAbs ≤ 1000 ∧ (t.bridge a).buffered.natAbs ≤ 1000) ∧
    (countsInRange s = true → encoderLaw s = true → encoderLaw t = true)

/-- Every step keeps the laws of the alert table together: no two entries share kind and source, every entry is unacknowledged or
active, only an entry of a lasting kind is active (R150, R151), a deadline is held by an unacknowledged ATTEND entry alone (R156),
and GUARD_BROKEN and SUPPLY_TRIP entries are URGENT. So, while the overflow flag is clear, a beacon flashes only for an
unacknowledged URGENT entry of its zone or of ALL (R161). -/
def Obligations.StepKeepsTheAlertLaws : Prop :=
  ∀ s t : State, step s = .next t → alertLaws s.alerts = true → alertLaws t.alerts = true ∧ beaconLaw t.alerts = true


/-! ### The gallery and its stations -/

/-- OPEN is refused outside CLOSED, with a supply that is out, and while the gallery owns an axis. Accepted, it sets the
safety-fixed flag and arms every UNARMED group, whose axes are free. With nothing to home the gallery is OPEN at once and
every STANDBY station is judged; with a first axis to home that the budget covers, that axis homes and the gallery is OPENING. The
notices come in this order: the GUARD_STATE of each group armed, the GALLERY_MODE of OPENING, one AXIS_STATE of each axis that is
freed or granted, as it stands after the request, and the GALLERY_MODE of OPEN where nothing homes (R1 to R3, R54, R55, R83, R97,
R127, R128, R131; that the AXIS_STATE notices of an event come after its other effects, in ascending index, is log 11, DEDUCED). -/
def Obligations.OpenArmsFixesAndEnters : Prop :=
  ∀ (s : State) (tag : Byte), LinkFree s →
    let run := exec (.openReq tag []) s
    let free := ¬ SupplyOut s ∧ ∀ a, (s.axis a).owner ≠ .gallery
    let homes (a : AxisId) := (s.axis a).state = .unhomed ∧ (∃ l, (s.line l).cfg.role = .home a) ∧
      (s.group (s.axis a).cfg.group).state ≠ .broken ∧ (s.axis a).cfg.ratedDraw ≤ s.gallery.cfg.capacity
    let opening := modeNotice .opening (armingNotices (fun _ => true) s)
    (s.gallery.mode ≠ .closed → run = .next (refused 0x20 tag .wrongMode s)) ∧
    (s.gallery.mode = .closed → SupplyOut s → run = .next (refused 0x20 tag .supply s)) ∧
    (s.gallery.mode = .closed → ¬ SupplyOut s → (∃ a, (s.axis a).owner = .gallery) →
      run = .next (refused 0x20 tag .busy s)) ∧
    (s.gallery.mode = .closed → free → ∃ t, run = .next (accepted 0x20 tag s t) ∧
      t.gallery.safetyFixed = true ∧ Follows (armingNotices (fun _ => true) s) t ∧
      (∀ g, t.group g = { s.group g with
        state := if (s.group g).state = .unarmed then .clear else (s.group g).state }) ∧
      (∀ a, (t.axis a).braked =
        if (s.group (s.axis a).cfg.group).state = .unarmed then false else (s.axis a).braked)) ∧
    (s.gallery.mode = .closed → free → Settled s → s.admission.queue = [] →
      (∀ a, (s.axis a).state ≠ .homing ∧ ¬ homes a) →
      ∃ t, run = .next (accepted 0x20 tag s t) ∧ t.gallery = { s.gallery with mode := .openMode, safetyFixed := true } ∧
        ((∀ st, (s.station st).state ≠ .halted) → Follows (modeNotice .openMode (freedNotices s opening)) t) ∧
        ∀ st, (s.station st).state = .standby → (s.station st).restOwed = false →
          ((∃ a, inSet s st a ∧ (s.group (s.axis a).cfg.group).state = .broken) → (t.station st).state = .halted) ∧
          ((∀ a, inSet s st a → (s.group (s.axis a).cfg.group).state ≠ .broken) →
            (∃ a, inSet s st a ∧ (s.axis a).healthy = false) → (t.station st).state = .outOfService) ∧
          ((∀ a, inSet s st a → (s.group (s.axis a).cfg.group).state ≠ .broken ∧ (s.axis a).healthy = true) →
            (t.station st).state = .ready)) ∧
    (s.gallery.mode = .closed → free → Settled s → ∀ a, homes a → (∀ b, b < a → ¬ homes b) → (s.axis a).owner = .none →
      (s.group (s.axis a).cfg.group).state = .unarmed →
      (s.axis a).cfg.ratedDraw ≤ s.gallery.cfg.capacity - s.admission.claimed →
      ∃ t, run = .next (accepted 0x20 tag s t) ∧ t.gallery = { s.gallery with mode := .opening, safetyFixed := true } ∧
        (t.axis a).state = .homing ∧ (t.axis a).owner = .gallery ∧ (t.axis a).homed = false ∧
        ((∀ st, (s.station st).state ≠ .halted) → (∀ b, homes b → (s.axis b).homed = false) →
          t.link = (axisNotices (fun b =>
            decide ((t.axis b).braked ≠ (s.axis b).braked ∨ (t.axis b).owner ≠ (s.axis b).owner)) t opening).link))

/-- CLOSE is refused in CLOSED and changes nothing in CLOSING. In OPEN it empties the queue; while a station plays on, QUEUED
stations are READY, RUNNING ones play on and the gallery drains; a PAUSED one is aborted with cause CONTROLLED: STOPPING, its player
ABORTED and its axes in a controlled stop while one of them moves, in COOLDOWN with its axes released where they stand. With none
playing and nothing to park the gallery is CLOSED at once, every enabled station in STANDBY; with none playing, parking begins: the
lowest axis that can park is granted to the gallery and moves to its park position. In OPENING it stops every homing. Each change
of mode sends GALLERY_MODE before the other notices of its event (R1, R4 to R6, R8, R14, R16, R18, R53, R55, R78, R85, R90, R101).
That a QUEUED station which owes a rest rests is log 12 (DEDUCED); that a HOMING axis at velocity 0 stays HOMING is the model's
choice (log 36, DESIGN CHOICE), and so is the order of the QUEUED and the PAUSED stations (log 43), which the notices show. -/
def Obligations.CloseEndsTheSession : Prop :=
  ∀ (s : State) (tag : Byte), LinkFree s →
    let run := exec (.closeReq tag []) s
    let parks (a : AxisId) := (s.axis a).homed = true ∧ (s.axis a).state ≠ .unconfigured ∧ (s.axis a).state ≠ .faulted ∧
      (s.axis a).cfg.park ≠ none ∧ (s.axis a).owner = .none ∧ (s.axis a).braked = false ∧
      (s.axis a).cfg.ratedDraw ≤ s.gallery.cfg.capacity
    (s.gallery.mode = .closed → run = .next (refused 0x21 tag .wrongMode s)) ∧
    (s.gallery.mode = .closing → run = .next (accepted 0x21 tag s s)) ∧
    (s.gallery.mode = .openMode → s.work = {} →
      (∃ st, (s.station st).state = .running ∨ (s.station st).state = .stopping ∨ (s.station st).state = .paused ∧
        ∃ a, (s.axis a).owner = .station st ∧ (s.axis a).vel ≠ 0) →
      ∃ t, run = .next (accepted 0x21 tag s t) ∧ t.gallery = { s.gallery with mode := .closing, closing := .draining } ∧
        t.admission.queue = [] ∧ Follows (modeNotice .closing s) t ∧
        (∀ a, (∀ st, (s.axis a).owner = .station st → (s.station st).state ≠ .paused) → t.axis a = s.axis a) ∧
        ∀ st,
          let x := s.station st
          (x.state = .queued → x.restOwed = false →
            t.station st = { x with state := .ready, cause := none, cooldownAt := none, restAt := none }) ∧
          (x.state = .queued → x.restOwed = true → t.station st = { x with
            state := .resting, cause := none, restOwed := false, cooldownAt := none, flashAt := none,
            restAt := some (s.now + BitVec.ofNat 32 (x.cfg.rest * 1000)) }) ∧
          (x.state = .paused → (∃ a, (s.axis a).owner = .station st ∧ (s.axis a).vel ≠ 0) →
            t.station st = { x with state := .stopping, cause := some .controlled, player := abortedPlayer x.player } ∧
            ∀ a, (s.axis a).owner = .station st → t.axis a = stopped false (s.axis a)) ∧
          (x.state = .paused → x.cfg.cooldown ≠ 0 →
            (∀ a, (s.axis a).owner = .station st → (s.axis a).vel = 0 ∧
              ((s.axis a).target = none ∨ (s.axis a).state = .idle ∨ (s.axis a).state = .unhomed)) →
            t.station st = { x with
              state := .cooldown, cause := none, player := { abortedPlayer x.player with state := .idle },
              cooldownAt := some (s.now + BitVec.ofNat 32 x.cfg.cooldown) } ∧
            ∀ a, (s.axis a).owner = .station st → (t.axis a).owner = .none ∧ (t.axis a).target = none) ∧
          (x.state ∉ [StState.queued, .paused] → t.station st = x)) ∧
    (s.gallery.mode = .openMode → s.work = {} → s.admission.homingWait = 0 → (∀ st, ¬ Playing s st) →
      (∀ a, (s.axis a).cfg.park = none ∧ (s.axis a).owner ≠ .gallery) →
      ∃ t, run = .next (accepted 0x21 tag s t) ∧ t.gallery = { s.gallery with mode := .closed, closing := .none } ∧
        t.admission.queue = [] ∧ Follows (modeNotice .closing s) t ∧
        ((∀ st, (s.station st).state ≠ .queued) → t.link = (forEach
          (stationIds.filter fun st => (s.station st).cfg.enabled &&
            (decide ((s.station st).state ≠ .standby) || (s.station st).cause.isSome))
          (stationNotice .standby none) (modeNotice .closed (modeNotice .closing s))).link) ∧
        ∀ st, (s.station st).cfg.enabled = true → (t.station st).state = .standby ∧ (t.station st).tally = 0 ∧
          (t.station st).restOwed = false ∧ (t.station st).cooldownAt = none ∧ (t.station st).restAt = none ∧
          (t.station st).leakAt = none ∧ (t.station st).flashAt = none) ∧
    (s.gallery.mode = .openMode → s.work = {} → s.admission.homingWait = 0 → (∀ st, ¬ Playing s st) →
      (∀ b, (s.axis b).owner ≠ .gallery) → ∀ a p, parks a → (∀ b, b < a → ¬ parks b) → (s.axis a).cfg.park = some p →
      (s.axis a).state = .idle → (s.axis a).vel = 0 → (s.axis a).stopReq = none → (s.axis a).cmd ≠ p * 256 →
      (s.axis a).cfg.ratedDraw ≤ s.gallery.cfg.capacity - s.admission.claimed →
      ∃ t, run = .next (accepted 0x21 tag s t) ∧ t.gallery = { s.gallery with mode := .closing, closing := .parking } ∧
        t.admission.queue = [] ∧ hasBit t.admission.parkingWait a.val = false ∧ Follows (modeNotice .closing s) t ∧
        t.axis a = { s.axis a with
          owner := .gallery, state := .moving, target := some p, negative := decide (p * 256 < (s.axis a).cmd) }) ∧
    (s.gallery.mode = .opening → s.work = {} → (∃ a, (s.axis a).owner = .gallery) →
      ∃ t, run = .next (accepted 0x21 tag s t) ∧ t.gallery = { s.gallery with mode := .closing, closing := .stoppingHoming } ∧
        t.admission.homingWait = 0 ∧ t.stations = s.stations ∧ t.link = (modeNotice .closing s).link ∧
        ∀ a, t.axis a = if (s.axis a).state = .homing then { s.axis a with stopReq := some .discard } else s.axis a)

/-- PLAY in OPEN for a station with a usable window: READY and RESTING stations get an entry, or are answered FULL; the entry
is admitted at once if it is admissible and stands alone, and waits otherwise; the entry of a QUEUED station is the host's from
then on; every other state is refused. CANCEL takes the entry out, and the station is READY, or RESTING if it owes a rest. An
admission sends the STATION_STATE notices and then one AXIS_STATE for each axis granted, in ascending index (R8, R12, R13, R39 to
R42, R46, R50, R52, R54, R62, R83; the rest at CANCEL is log 12, DEDUCED). -/
def Obligations.PlayAndCancelMoveTheStation : Prop :=
  ∀ (s : State) (tag : Byte), LinkFree s →
    (∀ b : Byte, 12 ≤ b.toNat → exec (.play tag [b]) s = .next (refused 0x22 tag .badValue s) ∧
      exec (.cancel tag [b]) s = .next (refused 0x23 tag .badValue s)) ∧
    ∀ st : StationId,
      let x := s.station st
      let run := exec (.play tag [byte st.val]) s
      let usable := s.gallery.mode = .openMode ∧ x.state ≠ .unconfigured ∧ 3 ≤ x.cfg.sizeCode ∧ x.cfg.sizeCode ≤ 8
      let asks := x.state = .ready ∨ x.state = .resting
      (s.gallery.mode ≠ .openMode → run = .next (refused 0x22 tag .wrongMode s)) ∧
      (s.gallery.mode = .openMode → ¬ usable → run = .next (refused 0x22 tag .notConfigured s)) ∧
      (usable → ¬ asks → x.state ≠ .queued → run = .next (refused 0x22 tag .wrongState s)) ∧
      (usable → asks → 8 ≤ s.admission.queue.length → run = .next (refused 0x22 tag .full s)) ∧
      (usable → x.state = .queued → run = .next (accepted 0x22 tag s { s with admission := { s.admission with
        queue := s.admission.queue.map fun e => if e.station = st then { e with source := .host } else e } })) ∧
      (usable → asks → s.admission.queue.length < 8 → Settled s → ¬ Admits s st →
        ∃ t, run = .next (accepted 0x22 tag s t) ∧
          t = { s with admission := { s.admission with
                  queue := s.admission.queue ++ [⟨st, .host, s.now, 1, false⟩] },
                       stations := t.stations, lamps := { s.lamps with lamps := t.lamps.lamps }, link := t.link } ∧
          t.station st = { x with state := .queued, cause := none, flashAt := none,
                                  restAt := if x.state = .resting then none else x.restAt } ∧
          (∀ o, o ≠ st → t.station o = s.station o) ∧ LampsShow s t st .flash .off ∧
          t.link = (sendNotice .station 0x42 [byte st.val, 3, 0xFF] s).link) ∧
      (∀ d, usable → asks → Settled s → Admits s st → StartsWaiting s st d →
        ∃ t, run = .next (accepted 0x22 tag s t) ∧
          Admitted s t st { x with flashAt := none, restAt := if x.state = .resting then none else x.restAt } d ∧
          t.link = (setNotices t st (stationNotice .running none st (stationNotice .queued none st s))).link) ∧
      (x.state ≠ .queued → exec (.cancel tag [byte st.val]) s = .next (refused 0x23 tag .wrongState s)) ∧
      (x.state = .queued → s.gallery.mode = .openMode → s.work = {} →
        ∃ t, exec (.cancel tag [byte st.val]) s = .next (accepted 0x23 tag s t) ∧
          t.admission = { s.admission with queue := s.admission.queue.filter fun e => e.station ≠ st } ∧
          (∀ o, o ≠ st → t.station o = s.station o) ∧
          (x.restOwed = false → t.station st = { x with state := .ready, cause := none, cooldownAt := none, restAt := none } ∧
            LampsShow s t st .on (if x.flashAt.isSome then .flash else .off)) ∧
          (x.restOwed = true → t.station st = { x with
            state := .resting, cause := none, restOwed := false, cooldownAt := none, flashAt := none,
            restAt := some (s.now + BitVec.ofNat 32 (x.cfg.rest * 1000)) }))

/-- HOLD pauses a RUNNING show: the player is HELD with the time left of its wait, and every axis it owns is asked for a
controlled stop that keeps its target. RELEASE sends it on: an axis held short of its target moves toward it; a time wait runs
again, or completes at once with no time left; an AXES wait and an END are judged anew, the axes at rest counting as reported, and
complete at once if all are: the player takes its next step, or the station cools down, its axes released (R14, R53, R66, R67, R73,
R75, R76, R85, R90). How a running timer is held, and when it has run out, is the model's (log 10). -/
def Obligations.HoldAndReleaseFreezeAndResume : Prop :=
  ∀ (s : State) (tag : Byte), LinkFree s →
    (∀ b : Byte, 12 ≤ b.toNat → exec (.hold tag [b]) s = .next (refused 0x24 tag .badValue s) ∧
      exec (.release tag [b]) s = .next (refused 0x25 tag .badValue s)) ∧
    ∀ st : StationId,
      let x := s.station st
      (s.gallery.mode ≠ .openMode → exec (.hold tag [byte st.val]) s = .next (refused 0x24 tag .wrongMode s)) ∧
      (s.gallery.mode = .openMode → x.state ≠ .running →
        exec (.hold tag [byte st.val]) s = .next (refused 0x24 tag .wrongState s)) ∧
      (s.gallery.mode = .openMode → x.state = .running → s.work = {} →
        ∃ t, exec (.hold tag [byte st.val]) s = .next (accepted 0x24 tag s t) ∧
          t = { s with stations := t.stations, axes := { s.axes with axes := t.axes.axes },
                       lamps := { s.lamps with lamps := t.lamps.lamps }, link := t.link } ∧
          t.station st = { x with
            state := .paused, cause := none,
            player := { x.player with state := .held, deadline := none, remaining := match x.player.deadline with
              | some d => if (s.now - d).toNat < 2147483648 then 0 else (d - s.now).toNat
              | none => 0 } } ∧
          (∀ o, o ≠ st → t.station o = s.station o) ∧
          (∀ a, t.axis a = if (s.axis a).owner = .station st then stopped true (s.axis a) else s.axis a)) ∧
      (x.state ≠ .paused → exec (.release tag [byte st.val]) s = .next (refused 0x25 tag .wrongState s)) ∧
      (x.state = .paused → s.gallery.mode = .openMode → s.work = {} →
        let release := exec (.release tag [byte st.val]) s
        let after (a : AxisId) := if (s.axis a).owner = .station st then resumed (s.axis a) else s.axis a
        let next (d : Nat) := d ≠ 0 ∧ x.player.current + 1 < 2 ^ x.cfg.sizeCode ∧
          u8 (s.stepRecord (x.cfg.windowBase + (x.player.current + 1))) 0 = 2 ∧
          u16 (s.stepRecord (x.cfg.windowBase + (x.player.current + 1))) 1 = d
        let goesOn (t : State) (p : Player) := t.station st = { x with state := .running, cause := none, player := p } ∧
          (∀ o, o ≠ st → t.station o = s.station o) ∧ ∀ a, t.axis a = after a
        let advanced (d : Nat) : Player := { x.player with
          state := .playing, current := x.player.current + 1, wait := .time, waitAxes := 0, reported := 0, remaining := 0,
          deadline := some (s.now + BitVec.ofNat 32 d) }
        (x.player.wait = .time → x.player.remaining ≠ 0 → ∃ t, release = .next (accepted 0x25 tag s t) ∧
          goesOn t { x.player with
            state := .playing, deadline := some (s.now + BitVec.ofNat 32 x.player.remaining), remaining := 0 }) ∧
        (∀ d, x.player.wait = .time → x.player.remaining = 0 → next d →
          ∃ t, release = .next (accepted 0x25 tag s t) ∧ goesOn t (advanced d)) ∧
        (x.player.wait = .axes → (∃ a : AxisId, hasBit x.player.waitAxes a.val = true ∧ ¬ Resting (after a)) →
          ∃ t, release = .next (accepted 0x25 tag s t) ∧
            goesOn t { x.player with state := .playing, reported := (t.station st).player.reported } ∧
            ∀ a : AxisId, hasBit (t.station st).player.reported a.val = true ↔
              hasBit x.player.waitAxes a.val = true ∧ Resting (after a)) ∧
        (∀ d, x.player.wait = .axes → (∀ a : AxisId, hasBit x.player.waitAxes a.val = true → Resting (after a)) → next d →
          ∃ t, release = .next (accepted 0x25 tag s t) ∧ goesOn t (advanced d)) ∧
        (x.player.wait = .finish → (∃ a, (s.axis a).owner = .station st ∧ ¬ Resting (after a)) →
          ∃ t, release = .next (accepted 0x25 tag s t) ∧ goesOn t { x.player with state := .playing }) ∧
        (x.player.wait = .finish → (∀ a, (s.axis a).owner = .station st → Resting (after a)) → x.cfg.cooldown ≠ 0 → Steady s →
          ∃ t, release = .next (accepted 0x25 tag s t) ∧ (∀ o, o ≠ st → t.station o = s.station o) ∧
            t.station st = { x with
              state := .cooldown, cause := none, cooldownAt := some (s.now + BitVec.ofNat 32 x.cfg.cooldown),
              player := { x.player with
                state := .idle, wait := .none, waitAxes := 0, reported := 0, deadline := none, trigger := none } } ∧
            (∀ a, (s.axis a).owner = .station st → (t.axis a).owner = .none) ∧
            ∀ a, (s.axis a).owner ≠ .station st → t.axis a = s.axis a))

/-- STOP aborts a RUNNING or PAUSED show with cause CONTROLLED: the player is ABORTED and the axes it owns make a controlled
stop that discards their targets; while one of them moves the station is STOPPING. A station that owns none goes to COOLDOWN
at once, its lamp group OFF (R14, R16, R18, R53, R77, R78, R90). -/
def Obligations.StopAbortsTheShow : Prop :=
  ∀ (s : State) (tag : Byte), LinkFree s →
    (∀ b : Byte, 12 ≤ b.toNat → exec (.stop tag [b]) s = .next (refused 0x26 tag .badValue s)) ∧
    ∀ st : StationId,
      let x := s.station st
      let run := exec (.stop tag [byte st.val]) s
      let aborted : Player := { x.player with
        state := .aborted, wait := .none, waitAxes := 0, reported := 0, deadline := none, remaining := 0, trigger := none }
      (x.state ≠ .running → x.state ≠ .paused → run = .next (refused 0x26 tag .wrongState s)) ∧
      (x.state = .running ∨ x.state = .paused → s.work = {} →
        (s.gallery.mode = .openMode ∨ s.gallery.mode = .closing ∧ s.gallery.closing = .draining) →
        (∃ a, (s.axis a).owner = .station st ∧ (s.axis a).vel ≠ 0) →
        ∃ t, run = .next (accepted 0x26 tag s t) ∧
          t = { s with stations := t.stations, axes := { s.axes with axes := t.axes.axes },
                       lamps := { s.lamps with lamps := t.lamps.lamps }, link := t.link } ∧
          t.station st = { x with state := .stopping, cause := some .controlled, player := aborted } ∧
          (∀ o, o ≠ st → t.station o = s.station o) ∧
          (∀ a, t.axis a = if (s.axis a).owner = .station st then stopped false (s.axis a) else s.axis a)) ∧
      (x.state = .running ∨ x.state = .paused →
        Settled s ∨ s.work = {} ∧ s.gallery.mode = .closing ∧ s.gallery.closing = .draining ∧ (∃ o, o ≠ st ∧ Playing s o) →
        (∀ a, (s.axis a).owner ≠ .station st) → x.cfg.cooldown ≠ 0 →
        ∃ t, run = .next (accepted 0x26 tag s t) ∧
          t = { s with stations := t.stations, lamps := { s.lamps with lamps := t.lamps.lamps }, link := t.link } ∧
          t.station st = { x with
            state := .cooldown, cause := none, player := { aborted with state := .idle },
            cooldownAt := some (s.now + BitVec.ofNat 32 x.cfg.cooldown) } ∧
          (∀ o, o ≠ st → t.station o = s.station o) ∧
          (∀ i ∈ x.cfg.group, x.cfg.ready ≠ some i → x.cfg.wait ≠ some i → t.lamp i = .off)) ∧
      (x.state = .running ∨ x.state = .paused → s.work = {} → s.gallery.mode = .closing → s.gallery.closing = .draining →
        (∀ o, o ≠ st → ¬ Playing s o) → (∀ a, (s.axis a).owner ≠ .station st) → s.admission.homingWait = 0 →
        (∀ a, (s.axis a).cfg.park = none ∧ (s.axis a).owner ≠ .gallery) →
        ∃ t, run = .next (accepted 0x26 tag s t) ∧ t.gallery.mode = .closed ∧
          ∀ o, (s.station o).cfg.enabled = true → (t.station o).state = .standby)

/-- LINE_DEBOUNCED of a line whose count is not full changes nothing (the model's choice, log 3; that the row acts after the
sample that fills the count is log 4, DEDUCED). A press of a DEMAND line sets its PRESSED flag and
reaches its station: ignored unless the gallery is OPEN, and in RESTING, HALTED, OUT_OF_SERVICE; counted, with the wait lamp
flashing, while a show plays or cools down; counted on its entry while QUEUED; and in READY it makes an entry, which is admitted
at once if it is admissible and stands alone, flashes at a full queue, or starts a rest if the tally trips (R9, R10, R26 to R28,
R34, R36, R40, R41, R46, R50, R52, R62). -/
def Obligations.VisitorPressesReachTheirStations : Prop :=
  ∀ (s : State) (l : LineId),
    let x := s.line l
    let run := exec (.lineDebounced l) s
    let u := (lineNotice s l 0).setLine l (lineAfterPress s x)
    (¬ Due x → run = .next (kickTx s)) ∧
    ∀ st : StationId, Due x → x.raw = true → x.cfg.role = .demand st → Steady s →
      let y := s.station st
      let flashed (z : Station) : Station := { z with flashAt := some (s.now + 2000) }
      (s.gallery.mode ≠ .openMode ∨ y.state ∈ [StState.unconfigured, .standby, .resting, .halted, .outOfService] →
        run = .next (kickTx u)) ∧
      (s.gallery.mode = .openMode → y.state ∈ [StState.running, .paused, .stopping, .cooldown] →
        ∃ t, run = .next (kickTx t) ∧ t = { u with stations := t.stations, lamps := { s.lamps with lamps := t.lamps.lamps } } ∧
          t.station st = flashed (counted s y) ∧ (∀ o, o ≠ st → t.station o = s.station o) ∧
          LampsShow s t st .off .flash) ∧
      (s.gallery.mode = .openMode → y.state = .queued →
        ∃ t, run = .next (kickTx t) ∧ t = { u with stations := t.stations, admission := { s.admission with
            queue := s.admission.queue.map fun e => if e.station = st then { e with presses := min 255 (e.presses + 1) } else e } } ∧
          t.station st = counted s y ∧ (∀ o, o ≠ st → t.station o = s.station o)) ∧
      (s.gallery.mode = .openMode → y.state = .ready → ¬ Trips y → 8 ≤ s.admission.queue.length →
        ∃ t, run = .next (kickTx t) ∧ t = { u with stations := t.stations, lamps := { s.lamps with lamps := t.lamps.lamps } } ∧
          t.station st = flashed (pressed s y) ∧ (∀ o, o ≠ st → t.station o = s.station o) ∧ LampsShow s t st .on .flash) ∧
      (s.gallery.mode = .openMode → y.state = .ready → ¬ Trips y → s.admission.queue.length < 8 → ¬ Admits s st →
        ∃ t, run = .next (kickTx t) ∧
          t = { u with stations := t.stations, lamps := { s.lamps with lamps := t.lamps.lamps }, link := t.link,
                       admission := { s.admission with
                         queue := s.admission.queue ++ [⟨st, .visitor, s.now, 1, false⟩] } } ∧
          t.station st = { pressed s y with state := .queued, cause := none, flashAt := none } ∧
          (∀ o, o ≠ st → t.station o = s.station o) ∧ LampsShow s t st .flash .off) ∧
      (∀ d, y.state = .ready → ¬ Trips y → Admits s st → StartsWaiting s st d →
        ∃ t, run = .next (kickTx t) ∧ t.line l = lineAfterPress s x ∧
          Admitted s t st { pressed s y with flashAt := none } d ∧
          t.link = (setNotices t st (stationNotice .running none st (stationNotice .queued none st (lineNotice s l 0)))).link) ∧
      (s.gallery.mode = .openMode → y.state = .ready → Trips y →
        ∃ t, run = .next (kickTx t) ∧ t.admission = s.admission ∧ (∀ o, o ≠ st → t.station o = s.station o) ∧
          t.station st = { y with
            state := .resting, cause := none, tally := 0, leakAt := none, flashAt := none, restOwed := false, cooldownAt := none,
            restAt := some (s.now + BitVec.ofNat 32 (y.cfg.rest * 1000)) })

/-- The other changes of debounced level: a press of a line that no block takes, and a release, are latched and reported; a
key turn acknowledges the alerts of its zone and arms the zone's groups, in either order; the release of a stuck line ends its
condition; the restore of a GUARD line takes it out of the broken set of its group, which sends GUARD_STATE, after the LINE_EVENT,
where it becomes UNARMED (R27, R29, R31 to R36, R125, R127, R129, R131, R159). -/
def Obligations.KeyTurnsReleasesAndRestores : Prop :=
  ∀ (s : State) (l : LineId),
    let x := s.line l
    let run := exec (.lineDebounced l) s
    let u := (lineNotice s l 0).setLine l (lineAfterPress s x)
    let r := (lineNotice s l 1).setLine l (lineAfterRelease x)
    let inZone (g : GroupId) := (s.group g).zone = x.cfg.zone
    Due x → Steady s →
    (x.raw = true → x.cfg.role ∈ [LineRole.unused, .spare] → run = .next (kickTx u)) ∧
    (x.raw = true → ∀ a, x.cfg.role = .home a → run = .next (kickTx u)) ∧
    (x.raw = true → x.cfg.role = .key →
      ∃ t, run = .next (kickTx t) ∧ t.line l = lineAfterPress s x ∧
        (∀ g, t.group g = { s.group g with
          state := if (s.group g).state = .unarmed ∧ inZone g then .clear else (s.group g).state }) ∧
        (∀ a, (s.group (s.axis a).cfg.group).state = .unarmed → inZone (s.axis a).cfg.group →
          ((t.axis a).braked = true ↔ SupplyOut s)) ∧
        ((∀ g, (s.group g).state = .unarmed → ¬ inZone g) → (∀ st, (s.station st).state ≠ .halted) →
          t.stations = s.stations ∧ t.axes = s.axes ∧ t.safety = s.safety ∧
          (∀ i e, s.slot i = some e → ofZone x.cfg.zone e → t.slot i = acknowledged e) ∧
          (∀ i, (∀ e, s.slot i = some e → ¬ ofZone x.cfg.zone e) → t.slot i = s.slot i))) ∧
    (x.raw = false → x.stuck = false → (∀ g, x.cfg.role ≠ .guard g) → run = .next (kickTx r)) ∧
    (x.raw = false → x.stuck = true → (∀ g, x.cfg.role ≠ .guard g) → alertKeysDistinct s.alerts = true →
      ∃ t, run = .next (kickTx t) ∧ t.line l = lineAfterRelease x ∧ (∀ o, o ≠ l → t.line o = s.line o) ∧
        ∀ i e, t.slot i = some e → e.kind = .inputStuck → e.source = .line l → e.active = false) ∧
    (x.raw = false → ∀ g, x.cfg.role = .guard g → hasBit (s.group g).brokenLines l.val = true →
      ∃ t, run = .next (kickTx t) ∧ t.line l = lineAfterRelease x ∧
        t.group g = { s.group g with
          brokenLines := delBit (s.group g).brokenLines l.val,
          state := if delBit (s.group g).brokenLines l.val = 0 then .unarmed else (s.group g).state } ∧
        (∀ h, h ≠ g → t.group h = s.group h) ∧ t.axes = s.axes ∧ t.stations = s.stations ∧
        (delBit (s.group g).brokenLines l.val ≠ 0 → t.link = (lineNotice s l 3).link) ∧
        (delBit (s.group g).brokenLines l.val = 0 → Follows (guardNotice g (t.group g) (lineNotice s l 3)) t))

/-- The timers of a station: the tally falls by one at each leak and the leak timer runs on while the tally is above 0; the
wait flash ends; a cooldown ends in READY, or in RESTING when a rest is owed; a rest ends in READY, or in OUT_OF_SERVICE while
an axis of the set is not healthy (R11, R14, R15, R142). That an expiry given while its timer is stopped or has not reached its
end, or in another state, changes nothing is the model's choice (log 2, log 3). -/
def Obligations.StationTimersRunOut : Prop :=
  ∀ (s : State) (st : StationId),
    let x := s.station st
    (exec (.tallyLeakExpiry st) s = .next (kickTx (if ranOut s x.leakAt = true then
      s.setStation st { x with
        tally := x.tally - 1,
        leakAt := if 2 ≤ x.tally then some (s.now + BitVec.ofNat 32 x.cfg.leak) else none } else s))) ∧
    (ranOut s x.flashAt = false → exec (.waitFlashExpiry st) s = .next (kickTx s)) ∧
    (ranOut s x.flashAt = true → ∃ t, exec (.waitFlashExpiry st) s = .next (kickTx t) ∧
      t = { s with stations := t.stations, lamps := { s.lamps with lamps := t.lamps.lamps } } ∧
      t.station st = { x with flashAt := none } ∧ (∀ o, o ≠ st → t.station o = s.station o) ∧
      (x.state ∈ [StState.running, .paused, .stopping, .cooldown] → LampsShow s t st .off .off) ∧
      (x.state = .ready → LampsShow s t st .on .off)) ∧
    (¬ (x.state = .cooldown ∧ ranOut s x.cooldownAt = true) → exec (.cooldownExpiry st) s = .next (kickTx s)) ∧
    (x.state = .cooldown → ranOut s x.cooldownAt = true → Steady s →
      ∃ t, exec (.cooldownExpiry st) s = .next (kickTx t) ∧ (∀ o, o ≠ st → t.station o = s.station o) ∧
        (x.restOwed = false → t.station st = { x with state := .ready, cause := none, cooldownAt := none, restAt := none }) ∧
        (x.restOwed = true → t.station st = { x with
          state := .resting, cause := none, restOwed := false, cooldownAt := none, flashAt := none,
          restAt := some (s.now + BitVec.ofNat 32 (x.cfg.rest * 1000)) })) ∧
    (¬ (x.state = .resting ∧ ranOut s x.restAt = true) → exec (.restExpiry st) s = .next (kickTx s)) ∧
    (x.state = .resting → ranOut s x.restAt = true → x.restOwed = false → Steady s →
      ∃ t, exec (.restExpiry st) s = .next (kickTx t) ∧ (∀ o, o ≠ st → t.station o = s.station o) ∧
        ((∀ a, inSet s st a → (s.axis a).healthy = true) →
          t.station st = { x with state := .ready, cause := none, cooldownAt := none, restAt := none }) ∧
        ((∃ a, inSet s st a ∧ (s.axis a).healthy = false) → t.station st = { x with
          state := .outOfService, cause := none, cooldownAt := none, restAt := none, flashAt := none }))

/-- The oldest entry below seniority becomes senior when its age has reached a starve limit other than 0, and an admission pass
follows: in a pass an inadmissible senior entry keeps every newer one waiting, an inadmissible entry that is not senior is passed
over, and an admissible one is admitted: its station's axes are granted, its player takes its first step and the scan goes on. The
newly senior entry of a QUEUED station is admitted so at its own event (R46, R48 to R50, R52, R62). That ENTRY_BECOMES_SENIOR changes nothing for any other entry, or before that age, is the model's
choice (log 2, log 3). -/
def Obligations.SeniorEntriesBlockNewerOnes : Prop :=
  (∀ (s : State) (st : StationId),
    let run := exec (.entryBecomesSenior st) s
    let due := ∃ e, s.admission.queue.find? (fun e => !e.senior) = some e ∧ e.station = st ∧ s.gallery.cfg.starve ≠ 0 ∧
      s.gallery.cfg.starve * 1000 ≤ (s.now - e.arrival).toNat
    let marked : State := { s with admission := { s.admission with
      queue := s.admission.queue.map fun e => if e.station = st then { e with senior := true } else e } }
    (¬ due → run = .next (kickTx s)) ∧
    (due → Steady s → run = .next (kickTx marked)) ∧
    (due → s.work = {} → s.gallery.mode = .openMode → s.admission.hold = false →
      (passOver marked.admission.queue marked).work = {} → run = .next (kickTx (passOver marked.admission.queue marked))) ∧
    (∀ d, due → s.work = {} → s.admission.queue.length = 1 → (s.station st).state = .queued → Admits s st →
      StartsWaiting s st d → ∃ t, run = .next (kickTx t) ∧ Admitted s t st (s.station st) d ∧
        t.link = (setNotices t st (stationNotice .running none st s)).link)) ∧
  (∀ (s : State) (e : Entry) (es : List Entry),
    (¬ Admits s e.station → e.senior = true → passOver (e :: es) s = s) ∧
    (¬ Admits s e.station → e.senior = false → passOver (e :: es) s = passOver es s) ∧
    (Admits s e.station → ∃ t, passOver (e :: es) s = passOver es t ∧
      ∀ d, StartsWaiting s e.station d → Admitted s t e.station (s.station e.station) d))

/-- A wait that runs out advances the player, which takes steps within the event: a MARK, a LAMPS step of its own group, a
WAIT_TIME at which it waits again, or an END with no axis owned, after which the station cools down. Past the last place of
its window the show faults with STEP_RANGE and is aborted (R63, R66, R68, R72 to R74). That an expiry given while no time wait
runs, or before its end, changes nothing is the model's choice (log 2, log 3). -/
def Obligations.WaitTimeExpiryTakesTheNextSteps : Prop :=
  ∀ (s : State) (st : StationId),
    let x := s.station st
    let p := x.player
    let run := exec (.waitTimeExpiry st) s
    let waits := p.state = .playing ∧ p.wait = .time ∧ ranOut s p.deadline = true
    let past (k : Nat) : Player := { p with
      current := k, wait := .none, waitAxes := 0, reported := 0, deadline := none, remaining := 0 }
    let record (k : Nat) := s.stepRecord (x.cfg.windowBase + k)
    (¬ waits → run = .next (kickTx s)) ∧
    (waits → Steady s → p.current + 1 < 2 ^ x.cfg.sizeCode →
      (∀ d : Nat, d ≠ 0 → u8 (record (p.current + 1)) 0 = 2 → u16 (record (p.current + 1)) 1 = d →
        run = .next (kickTx (s.setStation st { x with player := { past (p.current + 1) with
          wait := .time, deadline := some (s.now + BitVec.ofNat 32 d) } }))) ∧
      (∀ d : Nat, d ≠ 0 → p.current + 2 < 2 ^ x.cfg.sizeCode → u8 (record (p.current + 1)) 0 = 6 →
        u8 (record (p.current + 2)) 0 = 2 → u16 (record (p.current + 2)) 1 = d →
        run = .next (kickTx (s.setStation st { x with player := { past (p.current + 2) with
          wait := .time, deadline := some (s.now + BitVec.ofNat 32 d),
          loopCount := max 1 (u8 (record (p.current + 1)) 1), loopMark := some (p.current + 2) } }))) ∧
      (∀ d m : Nat, d ≠ 0 → u8 (record (p.current + 1)) 0 = 7 → 2 ≤ p.loopCount → p.loopMark = some m →
        m < 2 ^ x.cfg.sizeCode → u8 (record m) 0 = 2 → u16 (record m) 1 = d →
        run = .next (kickTx (s.setStation st { x with player := { past m with
          wait := .time, deadline := some (s.now + BitVec.ofNat 32 d), loopCount := p.loopCount - 1 } }))) ∧
      (∀ d : Nat, d ≠ 0 → p.current + 2 < 2 ^ x.cfg.sizeCode → u8 (record (p.current + 1)) 0 = 4 →
        u8 (record (p.current + 1)) 3 = 0xFF → u8 (record (p.current + 2)) 0 = 2 → u16 (record (p.current + 2)) 1 = d →
        ∃ t, run = .next (kickTx t) ∧
          t = { s.setStation st { x with player := { past (p.current + 2) with
                  wait := .time, deadline := some (s.now + BitVec.ofNat 32 d) } } with
                lamps := { s.lamps with lamps := t.lamps.lamps } } ∧
          ∀ i, t.lamp i =
            if ∃ k : Fin 8, x.cfg.group[k.val]? = some i ∧ hasBit ((record (p.current + 1)).getD 2 0) k.val = true then .off
            else if ∃ k : Fin 8, x.cfg.group[k.val]? = some i ∧ hasBit ((record (p.current + 1)).getD 1 0) k.val = true then .on
            else s.lamp i) ∧
      (u8 (record (p.current + 1)) 0 = 0 → (∀ a, (s.axis a).owner ≠ .station st) → x.cfg.cooldown ≠ 0 → DrainsOn s st →
        ∃ t, run = .next (kickTx t) ∧ (∀ o, o ≠ st → t.station o = s.station o) ∧
          t.station st = { x with
            state := .cooldown, cause := none, cooldownAt := some (s.now + BitVec.ofNat 32 x.cfg.cooldown),
            player := { past (p.current + 1) with state := .idle, trigger := none } })) ∧
    (waits → Steady s → p.current + 1 = 2 ^ x.cfg.sizeCode → x.state = .running →
      (∃ a, (s.axis a).owner = .station st ∧ (s.axis a).vel ≠ 0) →
      ∃ t, run = .next (kickTx t) ∧ (∀ o, o ≠ st → t.station o = s.station o) ∧
        t.station st = { x with
          state := .stopping, cause := some .controlled,
          player := { past p.current with state := .aborted, trigger := none, lastFault := some .stepRange } } ∧
        (∀ a, t.axis a = if (s.axis a).owner = .station st then stopped false (s.axis a) else s.axis a))

/-- The other steps, taken at the end of a wait. A MOVE gives its one or two axes their targets and override, relative to a kept
target or to the commanded position where it says so, clamped, and with its WAIT flag waits for them; a WAIT_ARRIVE waits for the
set; a TONE plays on the station's zone; a LAMPS step with a trigger is armed on its axis, or applied at once where the encoder
stands there. A MOVE that names an axis outside the set, one axis twice, or one that refuses its target, a LAMPS trigger outside
the set, a TONE out of range and an unknown kind fault the show with STEP_INVALID, and it is aborted (R61, R63 to R65, R67 to R71,
R74, R85). -/
def Obligations.ShowStepsMoveWaitAndSound : Prop :=
  ∀ (s : State) (st : StationId),
    let x := s.station st
    let p := x.player
    let k := p.current + 1
    let r := s.stepRecord (x.cfg.windowBase + k)
    let run := exec (.waitTimeExpiry st) s
    let past (k : Nat) : Player := { p with
      current := k, wait := .none, waitAxes := 0, reported := 0, deadline := none, remaining := 0 }
    let waitsAt (d : Nat) : Player := { past (k + 1) with wait := .time, deadline := some (s.now + BitVec.ofNat 32 d) }
    let next (d : Nat) := d ≠ 0 ∧ k + 1 < 2 ^ x.cfg.sizeCode ∧ u8 (s.stepRecord (x.cfg.windowBase + k + 1)) 0 = 2 ∧
      u16 (s.stepRecord (x.cfg.windowBase + k + 1)) 1 = d
    let relative := hasBit (r.getD 4 0) 0
    let flagged := hasBit (r.getD 4 0) 1
    let goal (y : Axis) (v : Int) := if relative then y.target.getD (y.cmd / 256) + v else v
    let percent := min 100 (max 10 (u8 r 3))
    let sent (y : Axis) (v : Int) : Axis := moved (goal y v) { y with override := percent }
    let takes (a : AxisId) := inSet s st a ∧ (s.axis a).state ≠ .faulted ∧ (s.axis a).braked = false
    let only (t : State) (q : Player) := (∀ o, o ≠ st → t.station o = s.station o) ∧ t.station st = { x with player := q }
    p.state = .playing → p.wait = .time → ranOut s p.deadline = true → Steady s → k < 2 ^ x.cfg.sizeCode →
    (∀ a d, u8 r 0 = 1 → u8 r 1 = a.val → u8 r 2 = 0xFF → flagged = false → takes a → next d →
      ∃ t, run = .next (kickTx t) ∧ only t (waitsAt d) ∧ t.axis a = sent (s.axis a) (i24 r 5) ∧
        ∀ b, b ≠ a → t.axis b = s.axis b) ∧
    (∀ a b d, u8 r 0 = 1 → u8 r 1 = a.val → u8 r 2 = b.val → a ≠ b → flagged = false → takes a → takes b → next d →
      ∃ t, run = .next (kickTx t) ∧ only t (waitsAt d) ∧ t.axis a = sent (s.axis a) (i24 r 5) ∧
        t.axis b = sent (s.axis b) (i24 r 8) ∧ ∀ c, c ≠ a → c ≠ b → t.axis c = s.axis c) ∧
    (∀ a d, u8 r 0 = 1 → u8 r 1 = a.val → u8 r 2 = 0xFF → flagged = true → takes a → next d →
      ∃ t, run = .next (kickTx t) ∧ t.axis a = sent (s.axis a) (i24 r 5) ∧ (∀ b, b ≠ a → t.axis b = s.axis b) ∧
        (¬ Resting (sent (s.axis a) (i24 r 5)) → only t { past k with wait := .axes, waitAxes := addBit 0 a.val }) ∧
        (Resting (sent (s.axis a) (i24 r 5)) → only t (waitsAt d))) ∧
    (u8 r 0 = 3 → (∃ a, inSet s st a ∧ ¬ Resting (s.axis a)) → ∃ t, run = .next (kickTx t) ∧ t.axes = s.axes ∧
      only t { past k with wait := .axes, waitAxes := x.cfg.axes, reported := (t.station st).player.reported } ∧
      ∀ a : AxisId, hasBit (t.station st).player.reported a.val = true ↔ inSet s st a ∧ Resting (s.axis a)) ∧
    (∀ d, u8 r 0 = 3 → (∀ a, inSet s st a → Resting (s.axis a)) → next d →
      run = .next (kickTx (s.setStation st { x with player := waitsAt d }))) ∧
    (∀ d, u8 r 0 = 5 → 16 ≤ u16 r 1 → u16 r 1 ≤ 4000 → u8 r 3 ≤ 15 → u16 r 4 ≠ 0 → next d →
      ∃ t, run = .next (kickTx t) ∧ only t (waitsAt d) ∧ t.axes = s.axes ∧
        t.tone x.cfg.zone = {
          playing := true, pitch := u16 r 1, amplitude := u8 r 3, effective := u8 r 3 * s.volume x.cfg.zone / 15,
          endTime := s.now + BitVec.ofNat 32 (u16 r 4), level := (t.tone x.cfg.zone).level } ∧
        ∀ z, z ≠ x.cfg.zone → t.tone z = s.tone z) ∧
    (∀ a d, u8 r 0 = 4 → u8 r 3 = a.val → inSet s st a → next d →
      let enc := (s.bridge a).raw + (s.axis a).offset
      (enc ≠ i32 r 4 → run = .next (kickTx (s.setStation st { x with player := { waitsAt d with
        trigger := some ⟨a, i32 r 4, decide (i32 r 4 < enc), r.getD 1 0, r.getD 2 0⟩ } }))) ∧
      (enc = i32 r 4 → ∃ t, run = .next (kickTx t) ∧ only t (waitsAt d) ∧
        ∀ i, t.lamp i =
          if ∃ n : Fin 8, x.cfg.group[n.val]? = some i ∧ hasBit (r.getD 2 0) n.val = true then .off
          else if ∃ n : Fin 8, x.cfg.group[n.val]? = some i ∧ hasBit (r.getD 1 0) n.val = true then .on
          else s.lamp i)) ∧
    (8 ≤ u8 r 0 ∨
      u8 r 0 = 1 ∧ ((∀ a, u8 r 1 = a.val → ¬ takes a) ∨ u8 r 2 ≠ 0xFF ∧ (u8 r 1 = u8 r 2 ∨ ∀ b, u8 r 2 = b.val → ¬ takes b)) ∨
      u8 r 0 = 4 ∧ u8 r 3 ≠ 0xFF ∧ (∀ a, u8 r 3 = a.val → ¬ inSet s st a) ∨
      u8 r 0 = 5 ∧ (u16 r 1 < 16 ∨ 4000 < u16 r 1 ∨ 15 < u8 r 3 ∨ u16 r 4 = 0) →
      x.state = .running → (∃ a, (s.axis a).owner = .station st ∧ (s.axis a).vel ≠ 0) →
      ∃ t, run = .next (kickTx t) ∧ (∀ o, o ≠ st → t.station o = s.station o) ∧
        t.station st = { x with
          state := .stopping, cause := some .controlled,
          player := { past k with state := .aborted, trigger := none, lastFault := some .stepInvalid } } ∧
        ∀ a, t.axis a = if (s.axis a).owner = .station st then stopped false (s.axis a) else s.axis a)


/-! ### Axes, encoders and bridges -/

/-- AXIS_MOVE in CLOSED grants an axis that stands free, within the budget, and gives it its target, clamped into the soft
limits of a homed axis, which raises TARGET_CLAMPED; one that stands there already is released at once; a value or a flag out of
range is refused. AXIS_STATE tells the owner and the state, once for the event (R54, R56, R57, R83, R85, R102; the flag R174; one
notice for the changes of one event is log 11). -/
def Obligations.AxisMoveStartsAMaintenanceMove : Prop :=
  ∀ (s : State) (tag : Byte), LinkFree s →
    (∀ p : List Byte, p.length = 6 → s.gallery.mode = .closed → 8 ≤ u8 p 0 ∨ Outside (-16000000) 16000000 (i32 p 1) ∨ 2 ≤ u8 p 5 →
      exec (.axisMove tag p) s = .next (refused 0x28 tag .badValue s)) ∧
    ∀ (a : AxisId) (v : Int) (relative : Bool), -16000000 ≤ v → v ≤ 16000000 →
    let x := s.axis a
    let run := exec (.axisMove tag ([byte a.val] ++ int32 v ++ [if relative then 1 else 0])) s
    let fit := (x.state = .idle ∨ x.state = .unhomed ∧ relative = true) ∧ x.owner = .none ∧ x.braked = false
    let goal := if relative then x.cmd / 256 + v else v
    let target := if x.homed then clampInt x.cfg.softMin x.cfg.softMax goal else goal
    (s.gallery.mode ≠ .closed → run = .next (refused 0x28 tag .wrongMode s)) ∧
    (s.gallery.mode = .closed → ¬ fit → run = .next (refused 0x28 tag .wrongState s)) ∧
    (s.gallery.mode = .closed → fit → s.gallery.cfg.capacity - s.admission.claimed < x.cfg.ratedDraw →
      run = .next (refused 0x28 tag .busy s)) ∧
    (s.gallery.mode = .closed → fit → x.cfg.ratedDraw ≤ s.gallery.cfg.capacity - s.admission.claimed → Settled s →
      x.vel = 0 → x.stopReq = none → ∃ t, run = .next (accepted 0x28 tag s t) ∧ (∀ b, b ≠ a → t.axis b = s.axis b) ∧
        (target = goal → t.link = (axisNotice a (t.axis a) s).link) ∧
        (target ≠ goal → (∃ i, s.slot i = none) → Raised t .targetClamped (.axis a)) ∧
        (x.cmd ≠ target * 256 →
          t.axis a = { x with owner := .gallery, state := .moving, target := some target,
                              negative := decide (target * 256 < x.cmd) } ∧
          t.admission = { s.admission with claimed := s.admission.claimed + x.cfg.ratedDraw }) ∧
        (x.cmd = target * 256 → t.axis a = { x with target := none, feTimer := none } ∧ t.admission = s.admission))

/-- AXIS_HOME in CLOSED grants an axis that stands free, has a home line and fits the budget, and its homing begins: off the
switch if its home line is active, else the seek, over the travel limit (R57, R97, R99). -/
def Obligations.AxisHomeStartsAHoming : Prop :=
  ∀ (s : State) (tag : Byte), LinkFree s →
    (∀ b : Byte, 8 ≤ b.toNat → s.gallery.mode = .closed →
      exec (.axisHome tag [b]) s = .next (refused 0x29 tag .badValue s)) ∧
    ∀ a : AxisId,
      let x := s.axis a
      let run := exec (.axisHome tag [byte a.val]) s
      let fit := (x.state = .idle ∨ x.state = .unhomed) ∧ x.owner = .none ∧ x.braked = false ∧
        ∃ l, (s.line l).cfg.role = .home a
      (s.gallery.mode ≠ .closed → run = .next (refused 0x29 tag .wrongMode s)) ∧
      (s.gallery.mode = .closed → ¬ fit → run = .next (refused 0x29 tag .wrongState s)) ∧
      (s.gallery.mode = .closed → fit → s.gallery.cfg.capacity - s.admission.claimed < x.cfg.ratedDraw →
        run = .next (refused 0x29 tag .busy s)) ∧
      (s.gallery.mode = .closed → fit → x.cfg.ratedDraw ≤ s.gallery.cfg.capacity - s.admission.claimed → Settled s →
        x.vel = 0 → 1 ≤ x.cfg.travel → ∀ l, (s.line l).cfg.role = .home a → (∀ o, (s.line o).cfg.role = .home a → o = l) →
        ∃ t, run = .next (accepted 0x29 tag s t) ∧ (∀ b, b ≠ a → t.axis b = s.axis b) ∧
          t.admission.claimed = s.admission.claimed + x.cfg.ratedDraw ∧
          let inHome := !(s.line l).raw
          let goal := if x.cfg.homePositive = inHome then x.cmd / 256 + x.cfg.travel else x.cmd / 256 - x.cfg.travel
          t.axis a = { x with
            owner := .gallery, state := .homing, homed := false, stopReq := none, homingLost := false,
            phase := some (if inHome then .seek else .away), target := some goal,
            negative := decide (goal * 256 < x.cmd) })

/-- AXIS_CLEAR ends a fault, in every mode: the axis is at rest where its encoder stands, IDLE if homed, UNHOMED with a home
line, and without one IDLE and homed at zero clamped into its limits; its error count is 0. A station that was OUT_OF_SERVICE and
whose axes are then all healthy is READY (R103, R81, R117, R20). -/
def Obligations.AxisClearEndsAFault : Prop :=
  ∀ (s : State) (tag : Byte), LinkFree s →
    (∀ b : Byte, 8 ≤ b.toNat → exec (.axisClear tag [b]) s = .next (refused 0x2A tag .badValue s)) ∧
    ∀ a : AxisId,
      let x := s.axis a
      let enc := (s.bridge a).raw + x.offset
      let zero := clampInt x.cfg.softMin x.cfg.softMax 0
      let still : Axis := { x with faultKind := none, vel := 0, target := none, stopReq := none }
      (x.state ≠ .faulted → exec (.axisClear tag [byte a.val]) s = .next (refused 0x2A tag .wrongState s)) ∧
      (x.state = .faulted → Steady s → ∃ t, exec (.axisClear tag [byte a.val]) s = .next (accepted 0x2A tag s t) ∧
        (∀ b, b ≠ a → t.axis b = s.axis b) ∧ (t.bridge a).err = 0 ∧ (t.bridge a).raw = (s.bridge a).raw ∧
        (x.homed = true → t.axis a = { still with state := .idle, cmd := clampInt x.cfg.softMin x.cfg.softMax enc * 256 }) ∧
        (x.homed = false → (∃ l, (s.line l).cfg.role = .home a) →
          t.axis a = { still with state := .unhomed, cmd := enc * 256 }) ∧
        (x.homed = false → (∀ l, (s.line l).cfg.role ≠ .home a) →
          t.axis a = { still with state := .idle, homed := true, offset := zero - (s.bridge a).raw, cmd := zero * 256 }) ∧
        (x.homed = true ∨ (∀ l, (s.line l).cfg.role ≠ .home a) → ∀ st,
          (inSet s st a → (s.station st).state = .outOfService → (s.station st).restOwed = false →
            (∀ b, inSet s st b → b ≠ a → (s.axis b).healthy = true) →
            t.station st = { s.station st with state := .ready, cause := none, cooldownAt := none, restAt := none }) ∧
          (¬ inSet s st a ∨ (s.station st).state ≠ .outOfService ∨ (∃ b, inSet s st b ∧ b ≠ a ∧ (s.axis b).healthy = false) →
            t.station st = s.station st)))

/-- The normal rule: for an acceleration a above 0 and an effective vmax of at least a, the new velocity is above 0, differs
from the old by at most a, never exceeds the larger of the two, and keeps within the stopping distance once there; the step
never passes the target, and an arrival lands on it exactly (R87, R88). At a profile interval the commanded position of a homed
axis, in whole counts, and its target stay within its soft limits, whether it moves, reverses, stops or follows its encoder, and
its velocity never exceeds vmax (the laws of R82 and R88; R85, R89 to R91). -/
def Obligations.ProfileTurnsKeepWithinTargetsAndLimits : Prop :=
  (∀ a V D v : Nat, 0 < a → a ≤ V →
    0 < normalVel a V D v ∧ normalVel a V D v ≤ v + a ∧ v ≤ normalVel a V D v + a ∧ normalVel a V D v ≤ max v V ∧
    (0 < v → v ≤ V → v * (v + a) / (2 * a) ≤ D →
      normalVel a V D v * (normalVel a V D v + a) / (2 * a) ≤ D)) ∧
  (∀ (x : Axis) (g : Int) (derate : Nat),
    let D := (x.cmd - g * 256).natAbs
    let v := normalVel x.cfg.acc (x.effVmax derate) D x.vel
    let y := x.normalStep g derate
    (y.axis.cmd - g * 256).natAbs = D - v ∧ (y.axis.cmd - x.cmd).natAbs = min v D ∧
    (y.arrived = true ↔ D ≤ v) ∧
    (D ≤ v → y.axis.cmd = g * 256 ∧ y.axis.vel = 0 ∧ y.axis.target = none) ∧
    (v < D → y.axis.vel = v ∧ y.axis.target = x.target)) ∧
  (∀ (x : Axis) (derate : Nat) (enc : Int),
    let y := (x.turn derate enc).axis
    let within (z : Axis) := z.cfg.softMin ≤ z.cmd / 256 ∧ z.cmd / 256 ≤ z.cfg.softMax ∧
      ∀ g, z.target = some g → z.cfg.softMin ≤ g ∧ g ≤ z.cfg.softMax
    (x.homed = true → x.cfg.softMin ≤ x.cfg.softMax → within x → y.homed = true → within y) ∧
    (1 ≤ x.cfg.acc → x.cfg.acc ≤ x.cfg.vmax → x.cfg.homingSpeed ≤ x.cfg.vmax → x.override ≤ 100 → derate ≤ 100 →
      x.vel ≤ x.cfg.vmax → y.vel ≤ x.cfg.vmax))

/-- A profile interval of axes that take no step sets the duty and the following-error timer of each driven axis and lets
every other configured axis follow its encoder. An axis MOVING toward its target under the normal rule moves by its new
velocity, and its duty is the sum of its two terms; one that arrives for the gallery is at rest, its claim ended (R56, R82, R83,
R87, R88, R94, R95, R112). That an interval whose timer reaches the following-error time leaves the axis un-jammed, the jam being
a step of its own, is log 4 (DEDUCED). -/
def Obligations.ProfileIntervalMovesHoldsAndFollows : Prop :=
  ∀ s : State, Steady s → (∀ a, NotJamming (s.axis a)) →
    ((∀ a, Still (s.axis a)) → ∃ t, exec .profileInterval s = .next (kickTx t) ∧
      t = { s with axes := { s.axes with axes := t.axes.axes }, drive := { s.drive with bridges := t.drive.bridges } } ∧
      ∀ a, KeepsStill s t a) ∧
    (∀ (a : AxisId) (g : Int), (∀ b, b ≠ a → Still (s.axis b)) → (s.axis a).state = .moving → Driven (s.axis a) →
      (s.axis a).stopReq = none → (s.axis a).target = some g →
      ((s.axis a).vel = 0 ∨ (if (s.axis a).negative then g * 256 < (s.axis a).cmd else (s.axis a).cmd < g * 256)) →
      let x := s.axis a
      let D := (x.cmd - g * 256).natAbs
      let v := normalVel x.cfg.acc (x.effVmax s.axes.derate) D x.vel
      let step : Int := if g * 256 < x.cmd then -(v : Int) else v
      let enc := (s.bridge a).raw + x.offset
      let error := clampInt (-32767) 32767 ((x.cmd + step) / 256 - enc)
      (v < D → ∃ t, exec .profileInterval s = .next (kickTx t) ∧
        t = { s with axes := { s.axes with axes := t.axes.axes }, drive := { s.drive with bridges := t.drive.bridges } } ∧
        (∀ b, b ≠ a → KeepsStill s t b) ∧
        t.axis a = { x with
          vel := v, cmd := x.cmd + step, negative := decide (g * 256 < x.cmd),
          feTimer := (if x.cfg.feLimit < error.natAbs then some (x.feTimer.getD 0 + 1) else none) } ∧
        t.bridge a = { s.bridge a with
          buffered := (clampInt (-(x.cfg.dutymax : Int)) x.cfg.dutymax
            (Int.tdiv (x.cfg.kp * error) 16 + Int.tdiv (x.cfg.kf * step) 1024)) }) ∧
      (D ≤ v → x.owner = .gallery → s.gallery.mode = .closed → Settled s → ∃ t, exec .profileInterval s = .next (kickTx t) ∧
        (∀ b, b ≠ a → KeepsStill s t b) ∧ (t.axis a).vel = 0 ∧ (t.axis a).target = none ∧ (t.axis a).cmd = g * 256 ∧
        (t.axis a).state = (if x.homed then .idle else .unhomed) ∧ (t.axis a).owner = .none ∧ (t.axis a).feTimer = none ∧
        t.admission = { s.admission with claimed := s.admission.claimed - x.cfg.ratedDraw }))

/-- A profile interval of one axis in motion under the other rules, every other axis still. With its target behind, it moves on by
its velocity less acc, and at velocity 0 its direction flips; in a controlled stop it moves on so until it stands, where a KEEP
stop leaves it IDLE with its target and a DISCARD stop of a maintenance move ends its claim. A homed axis that would pass a soft
limit lands on it at velocity 0, and LIMIT_STOP is raised (R56, R82, R87, R89 to R91). -/
def Obligations.ProfileIntervalReversesAndStops : Prop :=
  ∀ (s : State) (a : AxisId), Steady s → (∀ b, NotJamming (s.axis b)) → (∀ b, b ≠ a → Still (s.axis b)) → Driven (s.axis a) →
    let x := s.axis a
    let v := x.vel - x.cfg.acc
    let free : Int := if x.negative then x.cmd - v else x.cmd + v
    let limit : Int := (if x.negative then x.cfg.softMin else x.cfg.softMax) * 256
    let passes := x.homed = true ∧ (if x.negative then free < limit else limit < free)
    let raised (t : State) := (∃ i, s.slot i = none) → Raised t .limitStop (.axis a)
    let place : Int := if passes then limit else free
    let left := if passes then 0 else v
    let run := exec .profileInterval s
    (∀ g, (x.state = .moving ∨ x.state = .homing) → x.stopReq = none → x.target = some g → x.vel ≠ 0 →
      (if x.negative then x.cmd ≤ g * 256 else g * 256 ≤ x.cmd) →
      ∃ t, run = .next (kickTx t) ∧ (∀ b, b ≠ a → KeepsStill s t b) ∧
        t.axis a = { x with
          cmd := place, vel := left, negative := (if left = 0 then !x.negative else x.negative), feTimer := (t.axis a).feTimer } ∧
        (passes → raised t)) ∧
    (∀ r, x.state = .stopping → x.stopReq = some r → left ≠ 0 →
      ∃ t, run = .next (kickTx t) ∧ (∀ b, b ≠ a → KeepsStill s t b) ∧
        t.axis a = { x with cmd := place, vel := left, feTimer := (t.axis a).feTimer }) ∧
    (x.state = .stopping → x.stopReq = some .keep → left = 0 →
      ∃ t, run = .next (kickTx t) ∧ (∀ b, b ≠ a → KeepsStill s t b) ∧
        t.axis a = { x with
          cmd := place, vel := 0, stopReq := none, state := (if x.homed then .idle else .unhomed), feTimer := (t.axis a).feTimer } ∧
        (passes → raised t)) ∧
    (x.state = .stopping → x.stopReq = some .discard → left = 0 → x.owner = .gallery → s.gallery.mode = .closed → Settled s →
      ∃ t, run = .next (kickTx t) ∧ (∀ b, b ≠ a → KeepsStill s t b) ∧
        t.axis a = { x with
          cmd := place, vel := 0, target := none, stopReq := none, owner := .none, feTimer := none,
          state := (if x.homed then .idle else .unhomed) } ∧
        t.admission = { s.admission with claimed := s.admission.claimed - x.cfg.ratedDraw } ∧ (passes → raised t))

/-- The ends of homings and waits at a profile interval, every other axis still. A CAPTURED homing that stands ends IDLE and homed
when its position lies within the soft limits and fails with HOMING_FAILED otherwise; a homing that arrives without its edge, or
whose home line was taken away, fails; one stopped before its capture ends UNHOMED; the claim ends (R56, R84, R98 to R100). With
the last of them OPENING ends, and with the last parking, of a MOVING axis in no homing phase, the gallery is CLOSED (R3, R6, R82). An arrival, or a stop, of a station's axis
completes an AXES wait or an END, and the stop of its last axis ends STOPPING by its cause; the notices of a release follow the
STATION_STATE, those of a change of mode its GALLERY_MODE after the AXIS_STATE of the axis (R1, R14, R18, R53, R54, R67, R73, R83).
That a homing at velocity 0 under a DISCARD request ends at the next interval is the model's choice (log 36, DESIGN CHOICE), that a
homing whose home line was taken away is marked by homingLost log 17 (DEDUCED), and the place of AXIS_STATE in its event log 11. -/
def Obligations.HomingsParkingsAndWaitsEnd : Prop :=
  ∀ (s : State) (a : AxisId), (∀ b, NotJamming (s.axis b)) → (∀ b, b ≠ a → Still (s.axis b)) → Driven (s.axis a) → s.work = {} →
    let x := s.axis a
    let run := exec .profileInterval s
    let count := x.cmd / 256
    let stops := x.stopReq = some .discard ∧ x.vel ≤ x.cfg.acc
    let failed (t : State) := (t.axis a).state = .faulted ∧ (t.axis a).faultKind = some .homingFailed ∧ (t.axis a).homed = false ∧
      ((∃ i, s.slot i = none) → Raised t .homingFailed (.axis a))
    let ended (t : State) := (t.axis a).vel = 0 ∧ (t.axis a).target = none ∧ (t.axis a).phase = none ∧ (t.axis a).stopReq = none ∧
      (t.axis a).owner = .none ∧ t.admission.claimed = s.admission.claimed - x.cfg.ratedDraw
    let arrives := ∃ g, x.stopReq = none ∧ x.target = some g ∧ (x.vel = 0 ∨ (if x.negative then g * 256 < x.cmd else x.cmd < g * 256)) ∧
      (x.cmd - g * 256).natAbs ≤ normalVel x.cfg.acc (x.effVmax s.axes.derate) (x.cmd - g * 256).natAbs x.vel
    let homes := x.state = .homing ∧ x.homed = false ∧ x.owner = .gallery
    let good := homes ∧ stops ∧ x.homingLost = false ∧ x.phase = some .captured ∧ x.cfg.softMin ≤ count ∧ count ≤ x.cfg.softMax
    (Settled s → s.gallery.mode = .closed → homes →
      (good → ∃ t, run = .next (kickTx t) ∧ ended t ∧ (t.axis a).state = .idle ∧ (t.axis a).homed = true) ∧
      (stops → x.homingLost = false → x.phase = some .captured → ¬ good → ∃ t, run = .next (kickTx t) ∧ ended t ∧ failed t) ∧
      (stops → x.homingLost = true → ∃ t, run = .next (kickTx t) ∧ ended t ∧ failed t) ∧
      (stops → x.homingLost = false → x.phase ≠ some .captured →
        ∃ t, run = .next (kickTx t) ∧ ended t ∧ (t.axis a).state = .unhomed ∧ (t.axis a).homed = false) ∧
      (arrives → ∃ t, run = .next (kickTx t) ∧ ended t ∧ failed t)) ∧
    (s.gallery.mode = .opening → s.admission.homingWait = 0 → s.admission.parkingWait = 0 → s.admission.queue = [] → good →
      (∀ b, b ≠ a → (s.axis b).owner ≠ .gallery) →
      ∃ t, run = .next (kickTx t) ∧ ended t ∧ t.gallery = { s.gallery with mode := .openMode } ∧
        ((∀ o, (s.station o).state ≠ .outOfService) → Follows (modeNotice .openMode (axisNotice a (t.axis a) s)) t)) ∧
    (s.gallery.mode = .closing → s.gallery.closing = .parking → s.admission.homingWait = 0 → s.admission.parkingWait = 0 →
      x.state = .moving → x.phase = none → x.owner = .gallery → arrives → (∀ b, b ≠ a → (s.axis b).owner ≠ .gallery) →
      ∃ t, run = .next (kickTx t) ∧ ended t ∧ t.gallery = { s.gallery with mode := .closed, closing := .none } ∧
        Follows (modeNotice .closed (axisNotice a (t.axis a) s)) t ∧
        ∀ o, (s.station o).cfg.enabled = true → (t.station o).state = .standby) ∧
    (∀ st, x.owner = .station st → Steady s →
      let y := s.station st
      let p := y.player
      let others := ∀ b, b ≠ a → (s.axis b).owner = .station st → Resting (s.axis b)
      let rested := x.state = .moving ∧ arrives ∨ x.state = .stopping ∧ stops
      let cooled (t : State) := (t.station st).state = .cooldown ∧ (t.station st).cause = none ∧
        (t.station st).cooldownAt = some (s.now + BitVec.ofNat 32 y.cfg.cooldown) ∧ (t.station st).player.state = .idle ∧
        ∀ b, (s.axis b).owner = .station st → (t.axis b).owner = .none
      (∀ d, y.state = .running → p.state = .playing → p.wait = .axes → x.state = .moving → arrives →
        (∀ b : AxisId, hasBit p.waitAxes b.val = true → hasBit p.reported b.val = true ∨ b = a) →
        p.current + 1 < 2 ^ y.cfg.sizeCode → d ≠ 0 → u8 (s.stepRecord (y.cfg.windowBase + (p.current + 1))) 0 = 2 →
        u16 (s.stepRecord (y.cfg.windowBase + (p.current + 1))) 1 = d →
        ∃ t, run = .next (kickTx t) ∧ t.station st = { y with player := { p with
          current := p.current + 1, wait := .time, waitAxes := 0, reported := 0, remaining := 0,
          deadline := some (s.now + BitVec.ofNat 32 d) } }) ∧
      (y.state = .running → p.state = .playing → p.wait = .axes → x.state = .moving → arrives →
        (∃ b : AxisId, hasBit p.waitAxes b.val = true ∧ hasBit p.reported b.val = false ∧ b ≠ a) →
        ∃ t, run = .next (kickTx t) ∧ t.station st = { y with player := { p with reported := addBit p.reported a.val } }) ∧
      (y.state = .running → p.state = .playing → p.wait = .finish → x.state = .moving → arrives → others → y.cfg.cooldown ≠ 0 →
        DrainsOn s st → ∃ t, run = .next (kickTx t) ∧ cooled t ∧
          t.link = (forEach (axisIds.filter fun b => decide ((s.axis b).owner = .station st)) (fun b => axisNotice b (t.axis b))
            (stationNotice .cooldown none st s)).link) ∧
      (y.state = .stopping → rested → others → y.cause = some .controlled → y.cfg.cooldown ≠ 0 → DrainsOn s st →
        ∃ t, run = .next (kickTx t) ∧ cooled t) ∧
      (y.state = .stopping → rested → others → y.cause = some .safety → DrainsOn s st →
        ∃ t, run = .next (kickTx t) ∧ (t.station st).state = .halted ∧ (t.station st).cause = none ∧
          ∀ b, (s.axis b).owner = .station st → (t.axis b).owner = .none) ∧
      (y.state = .stopping → rested → others → y.cause = some .fault → (∃ b, inSet s st b ∧ (s.axis b).healthy = false) →
        DrainsOn s st → ∃ t, run = .next (kickTx t) ∧ (t.station st).state = .outOfService ∧ (t.station st).cause = none ∧
          ∀ b, (s.axis b).owner = .station st → (t.axis b).owner = .none))

/-- A jam: an axis whose following-error timer has reached its time is FAULTED with JAM and at rest where its encoder stands,
its bridge brakes, and AXIS_JAM is raised; a gallery claim ends, and a show that owns the axis is aborted with FAULT, its
other axes stopping. Stations in service whose set holds the axis are OUT_OF_SERVICE, their entries gone (R56, R95, R107, R16, R20,
R90). That FOLLOWING_ERROR_JAM of an axis whose timer has not reached its time changes nothing is the model's choice (log 3); that
the row acts after the interval that fills the timer is log 4 (DEDUCED). -/
def Obligations.JamFaultsTheAxis : Prop :=
  ∀ (s : State) (a : AxisId),
    let x := s.axis a
    let enc := (s.bridge a).raw + x.offset
    let run := exec (.followingErrorJam a) s
    let due := x.state ≠ .unconfigured ∧ Driven x ∧ ∃ n, x.feTimer = some n ∧ x.cfg.feTime ≤ n
    let jammed : Axis := { x with
      state := .faulted, faultKind := some .jam, vel := 0, target := none, stopReq := none, phase := none,
      homingLost := false, feTimer := none,
      cmd := (if x.homed then clampInt x.cfg.softMin x.cfg.softMax enc else enc) * 256 }
    let raised (t : State) := (∃ i, s.slot i = none) →
      ∃ i e, t.slot i = some e ∧ e.kind = .axisJam ∧ e.source = .axis a ∧ e.active = true
    (¬ due → run = .next (kickTx s)) ∧
    (due → x.owner = .gallery → s.gallery.mode = .closed → Settled s →
      ∃ t, run = .next (kickTx t) ∧ t.axis a = { jammed with owner := .none } ∧ (∀ b, b ≠ a → t.axis b = s.axis b) ∧
        ((s.bridge a).out ≠ .float → (t.bridge a).out = .brake) ∧
        t.admission.claimed = s.admission.claimed - x.cfg.ratedDraw ∧ raised t) ∧
    (due → ∀ st, x.owner = .station st → (s.station st).state = .running → s.work = {} →
      (s.gallery.mode = .openMode ∨ s.gallery.mode = .closing ∧ s.gallery.closing = .draining) →
      (∃ b, b ≠ a ∧ (s.axis b).owner = .station st ∧ (s.axis b).vel ≠ 0) →
      ∃ t, run = .next (kickTx t) ∧ t.axis a = jammed ∧
        (∀ b, b ≠ a → t.axis b = if (s.axis b).owner = .station st then stopped false (s.axis b) else s.axis b) ∧
        ((s.bridge a).out ≠ .float → (t.bridge a).out = .brake) ∧
        (t.station st).state = .stopping ∧ (t.station st).cause = some .fault ∧ (t.station st).player.state = .aborted ∧
        raised t ∧
        ∀ o, o ≠ st →
          (x.homed = true → inSet s o a → (s.station o).state ∈ [StState.ready, .queued, .cooldown, .resting] →
            t.station o = { s.station o with
              state := .outOfService, cause := none, restOwed := false, cooldownAt := none, restAt := none, flashAt := none } ∧
            ∀ e ∈ t.admission.queue, e.station ≠ o) ∧
          (¬ inSet s o a → t.station o = s.station o))

/-- Encoder transitions of a configured axis: the first pair is held; a legal one counts by one in its direction, turned round
by the invert flag, held at the ends of the count, and lowers the error count; an illegal one raises that by 8, to at most
255. ENCODER_SUSPECT is raised when the error count comes to 128 or above and ends when it falls to 127; an axis that reaches 255
fails with ENCODER. A count that brings the encoder to an armed trigger position, or past it, applies its pattern. An unconfigured
axis counts nothing (R68, R70, R96, R114, R115, R117 to R119). That a transition to the held pair changes nothing is the model's
choice (log 3), and that the first transition after a reset is the first observation is log 39. -/
def Obligations.EncoderTransitionsCount : Prop :=
  ∀ (s : State) (a : AxisId) (new : Bool × Bool),
    let x := s.axis a
    let b := s.bridge a
    let run := exec (.encoderTransition a new.1 new.2) s
    let free := ∀ st g, (s.station st).player.trigger = some g → g.axis ≠ a
    let legal (old : Bool × Bool) := new = nextPhase old ∨ old = nextPhase new
    let count (old : Bool × Bool) := clampInt (-2147483648) 2147483647
      (b.raw + if new = nextPhase old ↔ x.cfg.encInvert = false then 1 else -1)
    let counted (old : Bool × Bool) : Bridge := { b with held := some new, err := b.err - 1, raw := count old }
    (x.state = .unconfigured → run = .next (kickTx s)) ∧
    (x.state ≠ .unconfigured → b.held = none → run = .next (kickTx (s.setBridge a { b with held := some new }))) ∧
    (x.state ≠ .unconfigured → ∀ old, b.held = some old →
      (new = old → run = .next (kickTx s)) ∧
      (free → b.err ≠ 128 → legal old → run = .next (kickTx (s.setBridge a (counted old)))) ∧
      (free → b.err = 128 → legal old → alertKeysDistinct s.alerts = true →
        ∃ t, run = .next (kickTx t) ∧ t.drive = (s.setBridge a (counted old)).drive ∧ t.axes = s.axes ∧
          (∀ i e, t.slot i = some e → e.kind = .encoderSuspect → e.source = .axis a → e.active = false)) ∧
      (∀ st g, b.err ≠ 128 → legal old → count old ≠ b.raw → (s.station st).player.trigger = some g → g.axis = a →
        (∀ o h, o ≠ st → (s.station o).player.trigger = some h → h.axis ≠ a) →
        let y := s.station st
        let enc := count old + x.offset
        (enc = g.position ∨ (g.above = true ↔ enc < g.position) →
          ∃ t, run = .next (kickTx t) ∧
            t = { (s.setBridge a (counted old)).setStation st { y with player := { y.player with trigger := none } } with
                  lamps := { s.lamps with lamps := t.lamps.lamps } } ∧
            ∀ i, t.lamp i =
              if ∃ n : Fin 8, y.cfg.group[n.val]? = some i ∧ hasBit g.clearMask n.val = true then .off
              else if ∃ n : Fin 8, y.cfg.group[n.val]? = some i ∧ hasBit g.setMask n.val = true then .on
              else s.lamp i) ∧
        (enc ≠ g.position → (g.above = true ↔ g.position < enc) →
          run = .next (kickTx (s.setBridge a (counted old))))) ∧
      (new = (!old.1, !old.2) → (b.err < 120 ∨ 128 ≤ b.err ∧ b.err < 247 ∨ 255 ≤ b.err) →
        run = .next (kickTx (s.setBridge a { b with held := some new, err := min 255 (b.err + 8) }))) ∧
      (new = (!old.1, !old.2) → 120 ≤ b.err → b.err < 128 →
        ∃ t, run = .next (kickTx t) ∧ t.drive = (s.setBridge a { b with held := some new, err := b.err + 8 }).drive ∧
          t.axes = s.axes ∧ ((∃ i, s.slot i = none) → Raised t .encoderSuspect (.axis a))) ∧
      (new = (!old.1, !old.2) → 247 ≤ b.err → b.err < 255 → x.owner = .none → x.state ≠ .faulted → Settled s →
        ∃ t, run = .next (kickTx t) ∧ (t.axis a).state = .faulted ∧ (t.axis a).faultKind = some .encoder ∧
          (t.bridge a).err = 255 ∧ (t.bridge a).raw = b.raw ∧ (t.bridge a).held = some new ∧
          (∀ c, c ≠ a → t.axis c = s.axis c ∧ t.bridge c = s.bridge c)))

/-- The PWM clock: at a period start the configured frequency and dead time come into force, and each bridge in DRIVE, or
in BRAKE with an axis that may be driven, loads its buffered duty and begins a pulse of the leg its sign chooses if the on-time
is above one dead time; the end of the on-time and of a dead time turn the switches on their way (R108, R110 to R113; a pulse
that follows a full one of other duty is log 14, and one whose leg is still in the dead time toward its low side log 40). That
DEAD_TIME_END of a leg in no dead time, and PWM_ON_TIME_END out of DRIVE or at full duty, change nothing is the model's choice
(log 3). -/
def Obligations.PwmPeriodsPulseTheLegs : Prop :=
  ∀ s : State,
    let pulsing (b : Bridge) (d : Int) : Bridge :=
      let pulse := s.gallery.cfg.deadTime * s.gallery.cfg.pwmKhz < 4 * d.natAbs
      let start (l : Leg) : Leg :=
        if pulse then (if d.natAbs = 1000 ∧ b.loaded = d ∧ l = .high then .high else .deadHigh) else toLowSide l
      if 0 < d then { b with out := .drive, loaded := d, first := start b.first, second := toLowSide b.second }
      else if d < 0 then { b with out := .drive, loaded := d, first := toLowSide b.first, second := start b.second }
      else { b with out := .drive, loaded := d, first := toLowSide b.first, second := toLowSide b.second }
    (∃ t, exec .pwmPeriodStart s = .next (kickTx t) ∧ t = { s with drive := t.drive } ∧
      t.drive.pwmKhz = s.gallery.cfg.pwmKhz ∧ t.drive.deadTime = s.gallery.cfg.deadTime ∧
      ∀ a, t.bridge a = match (s.bridge a).out with
        | .float => s.bridge a
        | .drive => pulsing (s.bridge a) (s.bridge a).buffered
        | .brake =>
          if (s.axis a).state ≠ .unconfigured ∧ (s.axis a).owner ≠ .none ∧ (s.axis a).state ≠ .faulted
              ∧ (s.axis a).braked = false
          then pulsing (s.bridge a) (s.bridge a).buffered else s.bridge a) ∧
    (∀ a : AxisId,
      let b := s.bridge a
      let off (l : Leg) : Leg := if l = .high ∨ l = .deadHigh then .deadLow else l
      exec (.pwmOnTimeEnd a) s = .next (kickTx (s.setBridge a (
        if b.out = .drive ∧ b.loaded.natAbs < 1000 then
          (if b.loaded < 0 then { b with second := off b.second } else { b with first := off b.first })
        else b)))) ∧
    (∀ (a : AxisId) (leg : LegId),
      let b := s.bridge a
      let on (l : Leg) : Leg := if l = .deadLow then .low else if l = .deadHigh then .high else l
      exec (.deadTimeEnd a leg) s = .next (kickTx (s.setBridge a (
        if leg = .first then { b with first := on b.first } else { b with second := on b.second }))))

/-! ### Lines, guard groups and the supply -/

/-- INPUT_SAMPLE reads every line through its polarity: with no break and no home edge it sets each line's level and count and
nothing else; a GUARD line that goes active breaks its group at once, whose axes are braked by safety; the first active edge of
a seek captures the home position, and the first inactive edge of AWAY begins the seek, where no change of level is due at the
same sample. A key turn and a break of one sample come in either order: with the key first, the UNARMED groups of its zone become
CLEAR before the break; with the break first, the key turn is left due. A restore and a break of one group at one sample come in
either order too. Each time the group ends BROKEN, and some choice gives each order (R24 to R26, R30, R32, R92, R97 to R99, R123
to R125, R127, R129). That no edge is seen at the first sample and the raw level is kept through CFG_LINE is log 22 (DEDUCED), that
a sample leaves the changes that it fills due, but for those taken before a break or an edge, logs 4 and 41 (DEDUCED, DESIGN CHOICE).
The model's choices: that a DEMAND or KEY line configured before the first sample after a reset starts its stuck timer there
(log 34, DESIGN CHOICE), and that an axis captured at velocity 0 stays HOMING until the next profile interval (log 36, DESIGN
CHOICE). -/
def Obligations.InputSampleReadsEveryLine : Prop :=
  ∀ (s : State) (pins : LineSet), (∀ l, ¬ Due (s.line l)) →
    let run := exec (.inputSample pins) s
    ((∀ l g, ¬ Opens s pins l g) → (∀ l a, ¬ Edge s pins l a) → ∃ t, run = .next (kickTx t) ∧
      t = { s with lines := { lines := t.lines.lines, sampled := true, sampleTime := s.now } } ∧
      ∀ l, t.line l = sampled s pins l) ∧
    (∃ t, run = .next (kickTx t) ∧ ∀ l g, Opens s pins l g →
      t.line l = { s.line l with raw := true, debounced := true, count := 0, pressed := true, fresh := false } ∧
      (t.group g).state = .broken ∧ hasBit (t.group g).brokenLines l.val = true ∧
      ∀ a, (s.axis a).cfg.group = g → (t.axis a).braked = true) ∧
    (∀ l a, (∀ o g, ¬ Opens s pins o g) → Edge s pins l a → (∀ o b, Edge s pins o b → o = l) →
      (∀ o, ¬ Fills s pins o) → (s.axis a).state = .homing → (s.axis a).stopReq = none → Steady s →
      ((s.line l).raw = false → (s.axis a).phase = some .seek →
        ∃ t, run = .next (kickTx t) ∧ (∀ b, b ≠ a → t.axis b = s.axis b) ∧
          t.axis a = { s.axis a with
            offset := (s.axis a).cfg.homePos - (s.bridge a).raw,
            cmd := (s.axis a).cmd + ((s.axis a).cfg.homePos - (s.bridge a).raw - (s.axis a).offset) * 256,
            phase := some .captured, target := none, stopReq := some .discard }) ∧
      ((s.line l).raw = true → (s.axis a).phase = some .away → 1 ≤ (s.axis a).cfg.travel →
        ∃ t, run = .next (kickTx t) ∧ (∀ b, b ≠ a → t.axis b = s.axis b) ∧
          let goal := if (s.axis a).cfg.homePositive then (s.axis a).cmd / 256 + (s.axis a).cfg.travel
            else (s.axis a).cmd / 256 - (s.axis a).cfg.travel
          t.axis a = { s.axis a with
            phase := some .seek, target := some goal,
            negative := (if (s.axis a).vel = 0 then !(s.axis a).cfg.homePositive else (s.axis a).negative) }) ∧
      ((s.line l).raw = true → (s.axis a).phase = some .seek → ∃ t, run = .next (kickTx t) ∧ t.axes = s.axes)) ∧
    (∀ k l g, (s.line k).cfg.role = .key → Fills s pins k → level (s.line k) pins k = true → (∀ o, Fills s pins o → o = k) →
      (∀ o h, Opens s pins o h ↔ o = l ∧ h = g) → (∀ o a, ¬ Edge s pins o a) →
      let armed (h : GroupId) : GuardGroup := { s.group h with
        state := if (s.group h).state = .unarmed ∧ (s.group h).zone = (s.line k).cfg.zone then .clear else (s.group h).state }
      let breakFirst (t : State) := t.line k = sampled s pins k ∧ ∀ h,
        t.group h = if h = g then brokenBy l (s.group h) else s.group h
      let keyFirst (t : State) :=
        t.line k = lineAfterPress { s with lines := { s.lines with sampleTime := s.now } } (sampled s pins k) ∧ ∀ h,
          t.group h = if h = g then brokenBy l (s.group h) else armed h
      let ends (arb : List Nat) (order : State → Prop) :=
        ∃ t, exec (.inputSample pins) { s with arb := arb } = .next (kickTx t) ∧ order t
      ends s.arb (fun t => breakFirst t ∨ keyFirst t) ∧ (∃ n, ends [n] breakFirst) ∧ ∃ n, ends [n] keyFirst) ∧
    (∀ r l g, (s.line r).cfg.role = .guard g → Fills s pins r → (∀ o, Fills s pins o → o = r) →
      hasBit (s.group g).brokenLines r.val = true →
      (∀ o h, Opens s pins o h ↔ o = l ∧ h = g) → (∀ o a, ¬ Edge s pins o a) →
      let breakFirst (t : State) := t.line r = sampled s pins r ∧ t.group g = brokenBy l (s.group g)
      let restoreFirst (t : State) := t.line r = lineAfterRelease (sampled s pins r) ∧
        t.group g = brokenBy l { s.group g with brokenLines := delBit (s.group g).brokenLines r.val }
      let ends (arb : List Nat) (order : State → Prop) :=
        ∃ t, exec (.inputSample pins) { s with arb := arb } = .next (kickTx t) ∧ order t
      ends s.arb (fun t => breakFirst t ∨ restoreFirst t) ∧ (∃ n, ends [n] breakFirst) ∧ ∃ n, ends [n] restoreFirst)

/-- What a break does at its sample to the stations, where no change of level is due at the same sample: one in service whose set
the broken group touches is HALTED, its waits and its rest owed gone, its entry out of the queue; a show whose axes are all in the
group is HALTED at that event, its axes released; one with an axis moving outside the group is STOPPING with cause SAFETY, that
axis in a controlled stop that discards its target; a station that the group does not touch is left as it is. GUARD_BROKEN is
raised last, into an empty slot where no axis of the group is in a captured homing, whose failure would be raised before it (R92,
R100, R123, R154); the LINE_EVENT of the break, and then the GUARD_STATE of a group that becomes BROKEN, come before every other notice (R16 to
R19, R36, R42, R53, R78, R90, R92, R123, R124, R131). A supply trip reaches every station so, and leaves no axis owned (R16 to R19,
R56, R136). That a break or a trip tells the stations in ascending order is log 31, and that each release has its own pass log 23. -/
def Obligations.BreaksAndTripsStopShows : Prop :=
  (∀ (s : State) (pins : LineSet) (l : LineId) (g : GroupId),
    let run := exec (.inputSample pins) s
    let touches (st : StationId) := ∃ a, inSet s st a ∧ (s.axis a).cfg.group = g
    let broken := lineNotice { s with lines := { s.lines with sampleTime := s.now } } l 2
    (∀ o, ¬ Due (s.line o)) → (∀ o h, Opens s pins o h ↔ o = l ∧ h = g) → (∀ o b, ¬ Edge s pins o b) →
    (∀ o, ¬ Fills s pins o) → Settled s → galleryLaws s = true →
    ∃ t, run = .next (kickTx t) ∧
      ((∃ i, s.slot i = none) → (∀ a, (s.axis a).cfg.group = g → ¬ HomingCaptured (s.axis a)) → Raised t .guardBroken (.group g)) ∧
      Follows (if (s.group g).state = .broken then broken else guardNotice g (t.group g) broken) t ∧ ∀ st,
      let x := s.station st
      let outside (b : AxisId) := (s.axis b).owner = .station st ∧ (s.axis b).cfg.group ≠ g
      (¬ touches st → (∀ b, (s.axis b).owner = .station st → (s.axis b).cfg.group ≠ g) → t.station st = x) ∧
      (touches st → x.state ∈ [StState.ready, .queued, .cooldown, .resting, .outOfService] →
        t.station st = { x with
          state := .halted, cause := none, restOwed := false, cooldownAt := none, restAt := none, flashAt := none } ∧
        ∀ e ∈ t.admission.queue, e.station ≠ st) ∧
      (touches st → x.state = .running ∨ x.state = .paused →
        (∀ b, (s.axis b).owner = .station st →
          (s.axis b).cfg.group = g ∧ (s.axis b).braked = false ∧ (s.axis b).state ≠ .unconfigured) →
        (t.station st).state = .halted ∧ (t.station st).cause = none ∧ (t.station st).player.state = .idle ∧
          ∀ b, (s.axis b).owner = .station st → (t.axis b).owner = .none) ∧
      (touches st → x.state = .running ∨ x.state = .paused → (∃ b, outside b ∧ (s.axis b).vel ≠ 0) →
        (t.station st).state = .stopping ∧ (t.station st).cause = some .safety ∧ (t.station st).player.state = .aborted ∧
          ∀ b, outside b → t.axis b = stopped false (s.axis b))) ∧
  (∀ s : State,
    let u := s.safety.supply
    (u.state = .normal ∨ u.state = .low) → u.cfg.tripConfirm ≤ u.tripCount → Settled s → galleryLaws s = true →
    (∀ a, (s.axis a).owner ≠ .none → (s.axis a).braked = false ∧ (s.axis a).state ≠ .unconfigured) →
    ∃ t, exec .tripConfirm s = .next (kickTx t) ∧ (∀ a, (t.axis a).owner = .none) ∧ t.admission.queue.length ≤ s.admission.queue.length ∧
      ∀ st,
        ((s.station st).state ∈ [StState.ready, .queued, .running, .paused, .cooldown, .resting, .outOfService] ∨
            (s.station st).state = .stopping ∧ (∃ a, (s.axis a).owner = .station st) →
          (t.station st).state = .halted ∧ (t.station st).cause = none ∧ (t.station st).restOwed = false ∧
            (t.station st).tally = (s.station st).tally) ∧
        ((s.station st).state ∈ [StState.unconfigured, .standby, .halted] → t.station st = s.station st))

/-- REARM arms the UNARMED groups of a zone or of every zone, whose axes are then braked by the supply alone, and leaves the
other groups; it is answered GUARD_BROKEN if a group of the zone is BROKEN, which is no refusal. A HALTED station of the zone whose
groups are then all CLEAR, the supply not out, is READY if its axes are healthy, or RESTING if it owes a rest, and OUT_OF_SERVICE
if they are not; it stays HALTED otherwise, and every other station stays as it is. One GUARD_STATE for each group armed, in ascending
index, comes before every other notice (R20, R21, R122, R127, R130, R131). That a HALTED station which owes a rest is RESTING is log 12
(DEDUCED), the model's reading. -/
def Obligations.RearmArmsTheZone : Prop :=
  ∀ (s : State) (tag : Byte), LinkFree s →
    (∀ b : Byte, 5 ≤ b.toNat → exec (.rearm tag [b]) s = .next (refused 0x27 tag .badValue s)) ∧
    ∀ z : ZoneSel,
      let reached (g : GroupId) := z = .all ∨ z = .zone (s.group g).zone
      let reply (t : State) (status : Byte) :=
        exec (.rearm tag [z.code]) s = .next (replied 0x27 tag [status] (waitsAfter s t) .none t)
      ∃ t, ((∃ g, reached g ∧ (s.group g).state = .broken) → reply t 8) ∧
        ((∀ g, reached g → (s.group g).state ≠ .broken) → reply t 0) ∧
        Follows (armingNotices (fun g => decide (reached g)) s) t ∧
        (∀ g, (reached g → (s.group g).state = .unarmed → t.group g = { s.group g with state := .clear }) ∧
          (¬ reached g ∨ (s.group g).state ≠ .unarmed → t.group g = s.group g)) ∧
        (∀ a, reached (s.axis a).cfg.group → (s.group (s.axis a).cfg.group).state = .unarmed →
          ((t.axis a).braked = true ↔ SupplyOut s)) ∧
        (Steady s → (∀ a, (s.axis a).braked = s.shouldBrake a) → ∀ st,
          let x := s.station st
          let back := x.state = .halted ∧ (z = .all ∨ z = .zone x.cfg.zone) ∧ ¬ SupplyOut s ∧
            ∀ a, inSet s st a → (s.group (s.axis a).cfg.group).state = .clear ∨
              (s.group (s.axis a).cfg.group).state = .unarmed ∧ reached (s.axis a).cfg.group
          (¬ back → t.station st = x) ∧
          (back → (∀ a, inSet s st a → (s.axis a).healthy = true) → x.restOwed = false →
            t.station st = { x with state := .ready, cause := none, cooldownAt := none, restAt := none }) ∧
          (back → (∀ a, inSet s st a → (s.axis a).healthy = true) → x.restOwed = true →
            t.station st = { x with
              state := .resting, cause := none, restOwed := false, cooldownAt := none, flashAt := none,
              restAt := some (s.now + BitVec.ofNat 32 (x.cfg.rest * 1000)) }) ∧
          (back → (∃ a, inSet s st a ∧ (s.axis a).healthy = false) →
            t.station st = { x with
              state := .outOfService, cause := none, restOwed := false, cooldownAt := none, restAt := none, flashAt := none }))

/-- A supply sample, with no confirm due from the one before: in NORMAL and LOW it moves the two counts; in TRIPPED one at or
above W + H starts the recovery; in RECOVERING one below it returns the monitor to TRIPPED (R132 to R134, R138). That a sample
which brings a count to its confirm value leaves the state as it is, the confirm being a step of its own, is log 4 (DEDUCED). -/
def Obligations.SupplySamplesAreCounted : Prop :=
  ∀ (s : State) (v : Fin 1024), ¬ ConfirmDue s.safety.supply →
    let u := s.safety.supply
    let back := u.cfg.warn + u.cfg.hyst
    let store (x : Supply) : State := { s with safety := { s.safety with supply := x } }
    let trips := if v.val < u.cfg.trip then u.tripCount + 1 else 0
    exec (.supplySample v) s = .next (kickTx (match u.state with
      | .normal => store { u with latest := v.val, tripCount := trips,
                                  warnCount := if v.val < u.cfg.warn then u.warnCount + 1 else 0 }
      | .low => store { u with latest := v.val, tripCount := trips,
                               warnCount := if back ≤ v.val then u.warnCount + 1 else 0 }
      | .tripped =>
        if back ≤ v.val then
          sendNotice .supply 0x44 ([3, 2] ++ le16 v.val) (store { u with
            latest := v.val, state := .recovering, recoveryAt := some (s.now + BitVec.ofNat 32 u.cfg.recovery) })
        else store { u with latest := v.val }
      | .recovering =>
        if v.val < back then
          sendNotice .supply 0x44 ([2, 3] ++ le16 v.val) (store { u with latest := v.val, state := .tripped, recoveryAt := none })
        else store { u with latest := v.val }))

/-- The changes of the supply monitor. Confirmed LOW slows the axes and holds admissions, and confirmed NORMAL ends both; a
confirmed trip brakes every axis and holds admissions, and raises SUPPLY_TRIP last, into an empty slot where no axis is owned or in a
captured homing; the end of the recovery frees the axes whose group is CLEAR, ends the hold and moves no station. Each change of
state sends SUPPLY_STATE before the other notices of its event (R47, R92, R100, R122, R133 to R138, R154). That a confirm which is
not due, or an expiry whose timer is stopped or has not reached its end, changes nothing is the model's choice (log 2, log 3), and
that the confirms are steps of their own log 4 (DEDUCED). -/
def Obligations.SupplyChangesActOnThePart : Prop :=
  ∀ s : State,
    let u := s.safety.supply
    let counting := u.state = .normal ∨ u.state = .low
    let trip := counting ∧ u.cfg.tripConfirm ≤ u.tripCount
    let warn := counting ∧ u.cfg.warnConfirm ≤ u.warnCount ∧ ¬ trip
    let recovered := u.state = .recovering ∧ ranOut s u.recoveryAt = true
    (¬ trip → exec .tripConfirm s = .next (kickTx s)) ∧ (¬ warn → exec .warnConfirm s = .next (kickTx s)) ∧
    (¬ recovered → exec .recoveryTimerExpiry s = .next (kickTx s)) ∧
    (warn → u.state = .normal → Steady s → ∃ t, exec .warnConfirm s = .next (kickTx t) ∧
      Follows (supplyNotice .low s) t ∧
      t = { s with safety := { s.safety with supply := { u with state := .low, warnCount := 0 } },
                   axes := { s.axes with derate := 50 }, admission := { s.admission with hold := true },
                   alerts := t.alerts, sound := t.sound, link := t.link } ∧
      ((∃ i, s.slot i = none) → Raised t .supplyLow .supply)) ∧
    (warn → u.state = .low → Steady s → (s.gallery.mode ≠ .openMode ∨ s.admission.queue = []) →
      ∃ t, exec .warnConfirm s = .next (kickTx t) ∧
      Follows (supplyNotice .normal s) t ∧
      t = { s with safety := { s.safety with supply := { u with state := .normal, warnCount := 0 } },
                   axes := { s.axes with derate := 100 }, admission := { s.admission with hold := false },
                   alerts := t.alerts, link := t.link }) ∧
    (trip → ∃ t, exec .tripConfirm s = .next (kickTx t) ∧ t.safety.supply.state = .tripped ∧
      Follows (supplyNotice .tripped s) t ∧ ∀ a, (t.axis a).braked = true) ∧
    (trip → Settled s → ∃ t, exec .tripConfirm s = .next (kickTx t) ∧
      t.safety.supply = { u with state := .tripped, warnCount := 0, tripCount := 0 } ∧ t.admission.hold = true ∧
      t.axes.derate = (if u.state = .low then 100 else s.axes.derate) ∧ t.safety.groups = s.safety.groups ∧
      ((∃ i, s.slot i = none) → (∀ a, (s.axis a).owner = .none ∧ ¬ HomingCaptured (s.axis a)) → Raised t .supplyTrip .supply)) ∧
    (recovered → ∃ t, exec .recoveryTimerExpiry s = .next (kickTx t) ∧ t.safety.supply.state = .normal ∧
      Follows (supplyNotice .normal s) t ∧
      ∀ a, ((t.axis a).braked = true ↔ (s.group (s.axis a).cfg.group).state ≠ .clear)) ∧
    (recovered → Steady s → (s.gallery.mode ≠ .openMode ∨ s.admission.queue = []) →
      ∃ t, exec .recoveryTimerExpiry s = .next (kickTx t) ∧
        t.safety.supply = { u with state := .normal, warnCount := 0, tripCount := 0, recoveryAt := none } ∧
        t.admission.hold = false ∧ t.safety.groups = s.safety.groups ∧
        ((∀ a, (s.group (s.axis a).cfg.group).state ≠ .clear → (s.axis a).braked = true) → t.stations = s.stations))

/-! ### Alerts -/

/-- ALERT_CALL: a call of an index that has an entry reopens it with the call's severity and zone and counts it; a new one takes
the lowest empty slot, or in a full table the slot of the oldest INFO entry; with none, an INFO call is dropped and another is
lost, which sets the overflow flag, both answered FULL. Each change of the table sends an ALERT notice with the entry as it then
stands: REOPENED, RAISED, EVICTED with the entry evicted and then RAISED, or LOST without a slot (R152 to R154, R156, R165 to R167). -/
def Obligations.AlertCallMergesStoresOrLoses : Prop :=
  ∀ (s : State) (tag : Byte), LinkFree s →
    (∀ a b c : Byte, 16 ≤ a.toNat ∨ 3 ≤ b.toNat ∨ 5 ≤ c.toNat →
      exec (.alertCall tag [a, b, c]) s = .next (refused 0x39 tag .badValue s)) ∧
    ∀ (i : Fin 16) (sev : Severity) (z : ZoneSel),
      let run := exec (.alertCall tag [byte i.val, sev.code, z.code]) s
      let changes (t : State) (j : SlotId) :=
        t = { s with alerts := { s.alerts with slots := t.alerts.slots, chimeRepeatAt := t.alerts.chimeRepeatAt },
                     sound := { s.sound with chime := t.sound.chime }, link := t.link } ∧
        ∀ k, k ≠ j → t.slot k = s.slot k
      (∀ j e, alertKeysDistinct s.alerts = true → s.slot j = some e → e.kind = .hostCall → e.source = .host i →
        e.active = false → ∃ t, run = .next (accepted 0x39 tag s t) ∧ changes t j ∧
          t.slot j = some { e with
            count := min 255 (e.count + 1), last := s.now, zone := z, base := sev, severity := sev,
            deadline := deadlineNow s sev } ∧
          ∀ f, t.slot j = some f → t.link = (alertNotice .reopened (some j) f s).link) ∧
      (∀ j, Unheld s .hostCall (.host i) → s.slot j = none → (∀ k, k < j → s.slot k ≠ none) →
        ∃ t, run = .next (accepted 0x39 tag s t) ∧ changes t j ∧ t.slot j = some (newCall s i sev z) ∧
          t.link = (alertNotice .raised (some j) (newCall s i sev z) s).link) ∧
      (∀ j e, Unheld s .hostCall (.host i) → (∀ k, s.slot k ≠ none) → s.slot j = some e → e.severity = .info →
        (∀ k f, s.slot k = some f → f.severity = .info →
          (s.now - f.first).toNat < (s.now - e.first).toNat ∨ f.first = e.first ∧ j ≤ k) →
        ∃ t, run = .next (accepted 0x39 tag s t) ∧ changes t j ∧ t.slot j = some (newCall s i sev z) ∧
          t.link = (alertNotice .raised (some j) (newCall s i sev z) (alertNotice .evicted (some j) e s)).link) ∧
      (Unheld s .hostCall (.host i) → (∀ k, ∃ e, s.slot k = some e ∧ e.severity ≠ .info) →
        (sev = .info → run = .next (refused 0x39 tag .full s)) ∧
        (sev ≠ .info → ∃ t, run = .next (replied 0x39 tag [9] (waitsAfter s t) .none t) ∧
          t = { s with alerts := { s.alerts with overflow := true, chimeRepeatAt := t.alerts.chimeRepeatAt },
                       sound := { s.sound with chime := t.sound.chime }, link := t.link } ∧
          t.link = (alertNotice .lost none { newCall s i sev z with deadline := none } s).link ∧
          t.alerts.chimeRepeatAt = (if s.alerts.overflow = false ∧ s.alerts.quiet = false then repeatNow s
            else s.alerts.chimeRepeatAt)))

/-- ALERT_ACK acknowledges one slot's entry, the entries of a zone and of ALL, or every entry; an entry whose condition has
ended leaves the table, and the repeat timer stops when nothing calls any longer. Each entry acknowledged sends an ALERT notice,
ACKNOWLEDGED or REMOVED, in ascending slots (R158, R164, R167). -/
def Obligations.AlertAckAcknowledges : Prop :=
  ∀ (s : State) (tag : Byte), LinkFree s →
    let only (t : State) :=
      t = { s with alerts := { s.alerts with slots := t.alerts.slots, chimeRepeatAt := t.alerts.chimeRepeatAt }, link := t.link }
    (∀ a b : Byte, (a = 0 ∧ 24 ≤ b.toNat) ∨ (a = 1 ∧ 4 ≤ b.toNat) ∨ 3 ≤ a.toNat →
      exec (.alertAck tag [a, b]) s = .next (refused 0x38 tag .badValue s)) ∧
    (∀ i : SlotId, s.slot i = none → exec (.alertAck tag [0, byte i.val]) s = .next (refused 0x38 tag .wrongState s)) ∧
    (∀ (i : SlotId) (e : Alert), s.slot i = some e → ∃ t, exec (.alertAck tag [0, byte i.val]) s = .next (accepted 0x38 tag s t) ∧
      only t ∧ t.slot i = acknowledged e ∧ (∀ k, k ≠ i → t.slot k = s.slot k) ∧ t.link = (ackNotice s i s).link ∧
      (e.acked = false → ¬ Calls t.alerts → t.alerts.chimeRepeatAt = none)) ∧
    (∀ z : ZoneId, ∃ t, exec (.alertAck tag [1, byte z.val]) s = .next (accepted 0x38 tag s t) ∧ only t ∧
      t.link = (forEach (slotIds.filter fun i => (s.slot i).any fun e => decide (ofZone z e)) (ackNotice s) s).link ∧
      ∀ i, (∀ e, s.slot i = some e → ofZone z e → t.slot i = acknowledged e) ∧
        ((∀ e, s.slot i = some e → ¬ ofZone z e) → t.slot i = s.slot i)) ∧
    (∀ b : Byte, ∃ t, exec (.alertAck tag [2, b]) s = .next (accepted 0x38 tag s t) ∧ only t ∧
      t.link = (forEach slotIds (ackNotice s) s).link ∧
      ∀ i, t.slot i = (s.slot i).bind acknowledged)

/-- ALERT_MASK replaces the four masks and quiet, and ALERT_CLEAR_OVERFLOW clears the flag; both change no entry; what calls
no longer stops the repeat timer, and quiet turned on silences the chime. While the flag is set every beacon flashes; else, in a
masked zone or under quiet, it flashes for an unacknowledged GUARD_BROKEN or SUPPLY_TRIP entry and is OFF otherwise; else it flashes
for an unacknowledged URGENT entry, is STEADY for an unacknowledged ATTEND one or an acknowledged active one of ATTEND or URGENT, and
is OFF otherwise (R161 to R165; that any non-zero byte sets its bit R174). That the chime's wave keeps its level at a play request is log 15 (DEDUCED), the model's choice. -/
def Obligations.MasksQuietAndOverflow : Prop :=
  ∀ (s : State) (tag : Byte), LinkFree s →
    (∀ a b c d q : Byte, ∃ t, exec (.alertMask tag [a, b, c, d, q]) s = .next (accepted 0x3A tag s t) ∧
      t = { s with alerts := { s.alerts with masks := t.alerts.masks, quiet := decide (q ≠ 0),
                                             chimeRepeatAt := t.alerts.chimeRepeatAt },
                   sound := { s.sound with chime := t.sound.chime } } ∧
      (∀ z : ZoneId, hasBit t.alerts.masks z.val = decide (([a, b, c, d].getD z.val 0) ≠ 0)) ∧
      (q ≠ 0 → s.alerts.quiet = false → t.sound.chime.state = .silent) ∧ (¬ Calls t.alerts → t.alerts.chimeRepeatAt = none) ∧
      (Calls t.alerts → ¬ Calls s.alerts → t.sound.chime = chimeAfterPlay s ∧ t.alerts.chimeRepeatAt = repeatNow s)) ∧
    (∃ t, exec (.alertClearOverflow tag []) s = .next (accepted 0x3B tag s t) ∧
      t = { s with alerts := { s.alerts with overflow := false, chimeRepeatAt := t.alerts.chimeRepeatAt } } ∧
      (s.alerts.overflow = true → ¬ Calls t.alerts → t.alerts.chimeRepeatAt = none) ∧
      (s.alerts.overflow = false → t = s)) ∧
    (∀ z : ZoneId,
      let judged (p : Alert → Prop) := ∃ i e, s.slot i = some e ∧ ofZone z e ∧ p e
      let safety := judged fun e => e.acked = false ∧ (e.kind = .guardBroken ∨ e.kind = .supplyTrip)
      let urgent := judged fun e => e.acked = false ∧ e.severity = .urgent
      let standing := judged fun e => e.acked = false ∧ e.severity = .attend ∨
        e.acked = true ∧ e.active = true ∧ (e.severity = .attend ∨ e.severity = .urgent)
      let masked := s.alerts.quiet = true ∨ hasBit s.alerts.masks z.val = true
      (s.alerts.overflow = true → s.alerts.beacon z = .flash) ∧
      (s.alerts.overflow = false → masked → (safety → s.alerts.beacon z = .flash) ∧ (¬ safety → s.alerts.beacon z = .off)) ∧
      (s.alerts.overflow = false → ¬ masked →
        (urgent → s.alerts.beacon z = .flash) ∧ (¬ urgent → standing → s.alerts.beacon z = .steady) ∧
        (¬ urgent → ¬ standing → s.alerts.beacon z = .off)) ∧
      s.beaconLit z = match s.alerts.beacon z with
        | .off => false
        | .steady => true
        | .flash => s.lamps.lit)

/-- An escalation deadline that runs out makes its entry URGENT, and a stuck timer its line stuck with an INPUT_STUCK entry; a
chime that repeats plays again while something calls, and stops repeating otherwise. An escalation sends ESCALATED, a stuck line its
LINE_EVENT and then RAISED (R34, R36, R149, R153, R156, R163, R164, R167). The model's choices: that an expiry whose timer is stopped
or has not reached its end changes nothing (log 2), that the STUCK notice carries the present time (log 33), and that the chime's wave
keeps its level at a play request (log 15, DEDUCED). -/
def Obligations.AlertTimersRunOut : Prop :=
  (∀ (s : State) (i : SlotId),
    let run := exec (.escalationDeadlineExpiry i) s
    ((∀ e, s.slot i = some e → ranOut s e.deadline = false) → run = .next (kickTx s)) ∧
    (∀ e, s.slot i = some e → ranOut s e.deadline = true → ∃ t, run = .next (kickTx t) ∧
      t = { s with alerts := { s.alerts with slots := t.alerts.slots, chimeRepeatAt := t.alerts.chimeRepeatAt },
                   sound := { s.sound with chime := t.sound.chime }, link := t.link } ∧
      t.slot i = some { e with severity := .urgent, deadline := none } ∧ (∀ k, k ≠ i → t.slot k = s.slot k) ∧
      t.link = (alertNotice .escalated (some i) { e with severity := .urgent, deadline := none } s).link ∧
      (s.alerts.quiet = false → e.acked = false → (∃ z, e.zone = .zone z ∧ hasBit s.alerts.masks z.val = false) →
        t.sound.chime = chimeAfterPlay s ∧ t.alerts.chimeRepeatAt = repeatNow s))) ∧
  (∀ (s : State) (l : LineId),
    let x := s.line l
    (ranOut s x.stuckAt = false → exec (.stuckTimerExpiry l) s = .next (kickTx s)) ∧
    (ranOut s x.stuckAt = true → ∃ t, exec (.stuckTimerExpiry l) s = .next (kickTx t) ∧
      t.line l = { x with stuck := true, stuckAt := none } ∧ (∀ o, o ≠ l → t.line o = s.line o) ∧
      (∀ j, Unheld s .inputStuck (.line l) → s.slot j = none → (∀ k, k < j → s.slot k ≠ none) →
        t.slot j = some { kind := .inputStuck, source := .line l, zone := .zone x.cfg.zone, base := .attend, severity := .attend,
                          acked := false, active := true, count := 1, first := s.now, last := s.now,
                          deadline := deadlineNow s .attend } ∧
        (∀ k, k ≠ j → t.slot k = s.slot k) ∧
        ∀ f, t.slot j = some f → t.link = (alertNotice .raised (some j) f
          (lineNotice { s with lines := { s.lines with sampleTime := s.now } } l 4)).link))) ∧
  (∀ s : State,
    (ranOut s s.alerts.chimeRepeatAt = false → exec .chimeRepeatExpiry s = .next (kickTx s)) ∧
    (ranOut s s.alerts.chimeRepeatAt = true → Calls s.alerts → exec .chimeRepeatExpiry s = .next (kickTx { s with
      alerts := { s.alerts with chimeRepeatAt := repeatNow s }, sound := { s.sound with chime := chimeAfterPlay s } })) ∧
    (ranOut s s.alerts.chimeRepeatAt = true → ¬ Calls s.alerts → exec .chimeRepeatExpiry s = .next (kickTx { s with
      alerts := { s.alerts with chimeRepeatAt := none } })))

/-! ### Lamps, sound and queries -/

/-- LAMP_SET gives each named line its state, unless the list is empty or longer than 24, its count is not that of its pairs, a
line or a state is out of range, or a line is named twice or held by a playing station, and a lamp shows its
state, a flashing one the flash phase (R144, R139). The flash phase turns over; a tone that ends is SILENT at its rest level; a
square wave stands at its effective amplitude or at rest and changes level while its output sounds (R139, R146). The chime sounds
880 Hz and then 660 Hz, each at amplitude 15 for 600 ms, and falls silent (R149). That TONE_END, CHIME_NOTE_END and FLASH_PHASE
before their time, and the other rows of a silent output, change nothing is the model's choice (log 2, log 3), and so are the
fields that a silent output keeps (log 29) and that the chime's wave keeps its level at a change of note (log 15, DEDUCED). -/
def Obligations.LampsSoundAndFlashRunOn : Prop :=
  (∀ (s : State) (tag : Byte) (p : List Byte) (n : Nat), LinkFree s → p.length = 1 + 2 * n → n ≤ 29 →
    n = 0 ∨ 24 < n ∨ u8 p 0 ≠ n ∨ (∃ k < n, 24 ≤ u8 p (1 + 2 * k) ∨ 3 ≤ u8 p (2 + 2 * k)) →
    exec (.lampSet tag p) s = .next (refused 0x2B tag .badValue s)) ∧
  (∀ (s : State) (tag : Byte) (l : List (LampId × LampState)), LinkFree s → 1 ≤ l.length → l.length ≤ 24 →
    let p := byte l.length :: l.flatMap fun m => [byte m.1.val, m.2.code]
    let busy := ∃ m ∈ l, ∃ st, Playing s st ∧ m.1 ∈ (s.station st).cfg.lampLines
    let once := (l.map fun m => m.1).Nodup
    (¬ once → exec (.lampSet tag p) s = .next (refused 0x2B tag .badValue s)) ∧
    (once → busy → exec (.lampSet tag p) s = .next (refused 0x2B tag .wrongState s)) ∧
    (once → ¬ busy → ∃ t, exec (.lampSet tag p) s = .next (accepted 0x2B tag s t) ∧
      t = { s with lamps := { s.lamps with lamps := t.lamps.lamps } } ∧ (∀ m ∈ l, t.lamp m.1 = m.2) ∧
      ∀ i, i ∉ l.map (fun m => m.1) → t.lamp i = s.lamp i)) ∧
  (∀ s : State,
    (∀ i : LampId, s.lampLit i = match s.lamp i with | .off => false | .on => true | .flash => s.lamps.lit) ∧
    exec .flashPhase s = .next (kickTx (if 250 ≤ s.lamps.half then
      { s with lamps := { s.lamps with lit := !s.lamps.lit, half := 0 } } else s)) ∧
    (∀ z : ZoneId,
      let x := s.tone z
      exec (.toneEnd z) s = .next (kickTx (if x.playing = true ∧ ranOut s (some x.endTime) = true then
        s.setTone z { x with playing := false, level := false } else s)) ∧
      exec (.toneWaveHalfPeriod (.zone z)) s = .next (kickTx (
        if x.playing = true ∧ x.effective ≠ 0 then s.setTone z { x with level := !x.level } else s)) ∧
      x.output = if x.level then x.effective else 0) ∧
    exec .chimeNoteEnd s = .next (kickTx (if ranOut s s.sound.chime.endTime = true then
      (match s.sound.chime.state with
        | .silent => s
        | .firstNote => { s with sound := { s.sound with chime :=
            { s.sound.chime with state := .secondNote, endTime := some (s.now + 600) } } }
        | .secondNote => { s with sound := { s.sound with chime := { state := .silent, endTime := none, level := false } } })
      else s)) ∧
    exec (.toneWaveHalfPeriod .chime) s = .next (kickTx (if s.sound.chime.state = .silent then s
      else { s with sound := { s.sound with chime := { s.sound.chime with level := !s.sound.chime.level } } })) ∧
    s.sound.chime.state.pitch = (match s.sound.chime.state with
      | .silent => none
      | .firstNote => some 880
      | .secondNote => some 660) ∧
    s.sound.chime.output = if s.sound.chime.level = true ∧ s.sound.chime.state ≠ .silent then 15 else 0)

/-- TONE plays its tone on its zone's output in every mode, replacing what played there, and is answered OK at once, or is
refused when a field is out of range (R148; the scaled amplitude and the end time R146, R147; the level the wave starts at is
left open here, log 15). -/
def Obligations.TonePlaysOnItsZone : Prop :=
  ∀ (s : State) (tag zone amplitude : Byte) (pitch duration : Nat), LinkFree s → pitch < 65536 → duration < 65536 →
    ∃ level : Bool, exec (.tone tag ([zone] ++ le16 pitch ++ [amplitude] ++ le16 duration)) s = .next (
      if h : zone.toNat < 4 ∧ 16 ≤ pitch ∧ pitch ≤ 4000 ∧ amplitude.toNat ≤ 15 ∧ 1 ≤ duration then
        let z : ZoneId := ⟨zone.toNat, h.1⟩
        accepted 0x2C tag s (s.setTone z
          { playing := true, pitch := pitch, amplitude := amplitude.toNat, effective := amplitude.toNat * s.volume z / 15,
            endTime := s.now + BitVec.ofNat 32 duration, level := level })
      else refused 0x2C tag .badValue s)

/-- The six queries report the stored records and the runtime state as they stand; only the take option of QUERY_LINES changes
anything, the latched flags of its range (R8, R37, R38, R43, R44, R104, R120, R161, R168 and their reply layouts). A range, an axis
or a part that is out of range is refused as R37, R43, R104 and R168 say, and a take byte that is neither 0 nor 1 as R174 says of
every byte that carries one flag. That QUERY_STATION of a station above 11 is answered BAD_VALUE no rule names: it is the model's
reading of R174 (log 26, DEDUCED). The milliseconds left that QUERY_STATION reports are reckoned from the time base value at which
the timer runs out, 0 once it is reached, and are the cooldown timer's if both timers stand, which the rules never bring about:
both the model's choice (log 10, DESIGN CHOICE). That the beacons are those of the moment is log 24 (DEDUCED). -/
def Obligations.QueriesReportTheState : Prop :=
  ∀ (s : State) (tag : Byte), LinkFree s →
    (∀ b : Byte, 12 ≤ b.toNat → exec (.queryStation tag [b]) s = .next (refused 0x30 tag .badValue s)) ∧
    (∀ b c : Byte, (8 ≤ b.toNat ∨ 2 ≤ c.toNat → exec (.queryAxis tag [b, c]) s = .next (refused 0x31 tag .badValue s)) ∧
      (PlacesOutOfRange 8 4 [b, c] → exec (.queryQueue tag [b, c]) s = .next (refused 0x32 tag .badValue s)) ∧
      (PlacesOutOfRange 24 3 [b, c] → exec (.queryAlerts tag [b, c]) s = .next (refused 0x34 tag .badValue s)) ∧
      ∀ d : Byte, PlacesOutOfRange 40 40 [b, c] ∨ 2 ≤ d.toNat →
        exec (.queryLines tag [b, c, d]) s = .next (refused 0x33 tag .badValue s)) ∧
    (∀ st : StationId, (s.station st).cfg.group.length ≤ 8 →
      let x := s.station st
      exec (.queryStation tag [byte st.val]) s = .next (reported 0x30 tag (stationBytes st x.cfg
        ++ [x.state.code, byte x.tally, if x.restOwed then 1 else 0, causeCode x.cause]
        ++ le32 (match x.cooldownAt, x.restAt with
          | some d, _ | none, some d => if (s.now - d).toNat < 2147483648 then 0 else (d - s.now).toNat
          | none, none => 0)
        ++ [x.player.state.code, byte x.player.current, showFaultCode x.player.lastFault]) s)) ∧
    (∀ a : AxisId,
      let x := s.axis a
      (axisInRange x.cfg = true → exec (.queryAxis tag [byte a.val, 0]) s = .next (reported 0x31 tag (axisBytes a x.cfg) s)) ∧
      exec (.queryAxis tag [byte a.val, 1]) s = .next (reported 0x31 tag
        ([byte a.val, x.state.code, x.owner.code,
          byte ((if x.homed then 1 else 0) + (if x.braked then 2 else 0) + (if x.negative then 4 else 0)
            + (if x.target.isSome then 8 else 0)),
          faultCode x.faultKind, phaseCode x.phase, stopReqCode x.stopReq]
          ++ le32i x.offset ++ le32i (x.cmd / 256) ++ [byte (x.cmd % 256).toNat] ++ le32i ((s.bridge a).raw + x.offset)
          ++ le32i (x.target.getD 0) ++ le16 x.vel ++ [byte x.override]
          ++ le16i (clampInt (-32767) 32767 (x.cmd / 256 - ((s.bridge a).raw + x.offset))) ++ le16 (x.feTimer.getD 0)
          ++ le16i (s.bridge a).loaded ++ [byte (s.bridge a).err]) s)) ∧
    (∀ f n : Nat, f ≤ 7 → 1 ≤ n → n ≤ 4 → f + n ≤ 8 →
      exec (.queryQueue tag [byte f, byte n]) s = .next (reported 0x32 tag ([byte s.admission.queue.length]
        ++ ((List.range n).flatMap fun k => match s.admission.queue[f + k]? with
          | none => [0xFF, 0, 0, 0, 0, 0, 0, 0, 0, 0, 0]
          | some e => [byte e.station.val, byte ((if e.source = .host then 1 else 0) + (if e.senior then 2 else 0)),
              byte e.presses] ++ le32 e.arrival.toNat ++ le32 (s.now - e.arrival).toNat)
        ++ [if s.admission.hold then 1 else 0, byte s.gallery.cfg.capacity, byte s.admission.claimed,
            byte (s.gallery.cfg.capacity - s.admission.claimed)] ++ le16 s.gallery.cfg.starve
        ++ (axisIds.map fun a => (s.axis a).owner.code)) s)) ∧
    (∀ (f n : Nat) (take : Bool), 1 ≤ n → f + n ≤ 40 →
      ∃ t, exec (.queryLines tag [byte f, byte n, if take then 1 else 0]) s = .next (reported 0x33 tag
        (((lineIds.drop f).take n).map (fun l =>
            let x := s.line l
            byte ((if x.debounced then 1 else 0) + (if x.raw then 2 else 0) + (if x.pressed then 4 else 0)
              + (if x.released then 8 else 0) + (if x.stuck then 16 else 0)))
          ++ (List.range 6).map (fun k => byte (((List.range 4).map fun j =>
              match lampIds[4 * k + j]? with
              | some i => (s.lamp i).code.toNat * 4 ^ j
              | none => 0).sum))) t) ∧
        t = { s with lines := { s.lines with lines := t.lines.lines } } ∧
        ∀ l, t.line l = if take = true ∧ f ≤ l.val ∧ l.val < f + n
          then { s.line l with pressed := false, released := false } else s.line l) ∧
    (∀ f n : Nat, 1 ≤ n → n ≤ 3 → f + n ≤ 24 →
      exec (.queryAlerts tag [byte f, byte n]) s = .next (reported 0x34 tag
        ((((slotIds.drop f).take n).flatMap fun i => match s.slot i with
          | none => [byte i.val, 0xFF] ++ List.replicate 15 0
          | some e => [byte i.val, e.kind.code, e.source.kindCode, e.source.index, e.zone.code, e.severity.code, e.base.code,
              byte ((if e.acked then 1 else 0) + (if e.active then 2 else 0) + (if e.deadline.isSome then 4 else 0)),
              byte e.count] ++ le32 e.first.toNat ++ le32 e.last.toNat)
          ++ [byte (slotIds.filter fun i => (s.slot i).isSome).length,
              byte ((if s.alerts.overflow then 1 else 0) + (if s.alerts.quiet then 2 else 0) + 4 * s.alerts.masks.toNat),
              byte ((s.alerts.beacon 0).code + 4 * (s.alerts.beacon 1).code + 16 * (s.alerts.beacon 2).code
                + 64 * (s.alerts.beacon 3).code)]) s)) ∧
    exec (.queryGallery tag []) s = .next (reported 0x35 tag (galleryBytes s.gallery.cfg) s)
end

