-- ==== Sys2Proof/Laws/State.lean ====
section
/-! SUPPORT. One lemma per field per named update of the state, and what a record reads as after a record has been written. -/

namespace Sys2Proof.Machine

open Sys2Proof

theorem get_eq_getElem {α : Type} {n : Nat} (v : Vector α n) (i : Fin n) : v.get i = v[i.val] := rfl

/-- Reading a vector of records after one of them has been written. -/
theorem get_set {α : Type} {n : Nat} (v : Vector α n) (i j : Fin n) (x : α) :
    (v.set i.val x).get j = if i = j then x else v.get j := by
  simp [get_eq_getElem, Vector.getElem_set, Fin.ext_iff]

/-- Writing back what stands there changes nothing. -/
theorem set_get {α : Type} {n : Nat} (v : Vector α n) (i : Fin n) : v.set i.val (v.get i) = v := by
  simp [get_eq_getElem]

variable (s : State)

/-! ### setLine -/

@[simp] theorem State.setLine_now (i : LineId) (x : Line) : (s.setLine i x).now = s.now := rfl
@[simp] theorem State.setLine_gallery (i : LineId) (x : Line) : (s.setLine i x).gallery = s.gallery := rfl
@[simp] theorem State.setLine_stations (i : LineId) (x : Line) : (s.setLine i x).stations = s.stations := rfl
@[simp] theorem State.setLine_store (i : LineId) (x : Line) : (s.setLine i x).store = s.store := rfl
@[simp] theorem State.setLine_admission (i : LineId) (x : Line) : (s.setLine i x).admission = s.admission := rfl
@[simp] theorem State.setLine_axes (i : LineId) (x : Line) : (s.setLine i x).axes = s.axes := rfl
@[simp] theorem State.setLine_drive (i : LineId) (x : Line) : (s.setLine i x).drive = s.drive := rfl
@[simp] theorem State.setLine_safety (i : LineId) (x : Line) : (s.setLine i x).safety = s.safety := rfl
@[simp] theorem State.setLine_lamps (i : LineId) (x : Line) : (s.setLine i x).lamps = s.lamps := rfl
@[simp] theorem State.setLine_sound (i : LineId) (x : Line) : (s.setLine i x).sound = s.sound := rfl
@[simp] theorem State.setLine_alerts (i : LineId) (x : Line) : (s.setLine i x).alerts = s.alerts := rfl
@[simp] theorem State.setLine_link (i : LineId) (x : Line) : (s.setLine i x).link = s.link := rfl
@[simp] theorem State.setLine_work (i : LineId) (x : Line) : (s.setLine i x).work = s.work := rfl
@[simp] theorem State.setLine_arb (i : LineId) (x : Line) : (s.setLine i x).arb = s.arb := rfl
@[simp] theorem State.setLine_drawn (i : LineId) (x : Line) : (s.setLine i x).drawn = s.drawn := rfl
@[simp] theorem State.setLine_pending (i : LineId) (x : Line) : (s.setLine i x).pending = s.pending := rfl
@[simp] theorem State.setLine_lines_sampled (i : LineId) (x : Line) : (s.setLine i x).lines.sampled = s.lines.sampled := rfl
@[simp] theorem State.setLine_lines_sampleTime (i : LineId) (x : Line) : (s.setLine i x).lines.sampleTime = s.lines.sampleTime := rfl
theorem State.setLine_line (i : LineId) (x : Line) (j : LineId) :
    (s.setLine i x).line j = if i = j then x else s.line j := by
  simp [State.setLine, State.line, get_set]
@[simp] theorem State.setLine_line_self (i : LineId) (x : Line) : (s.setLine i x).line i = x := by simp [State.setLine_line]
@[simp] theorem State.setLine_line_ne (i : LineId) (x : Line) (j : LineId) (h : i ≠ j) :
    (s.setLine i x).line j = s.line j := by simp [State.setLine_line, h]
@[simp] theorem State.setLine_line_eta (i : LineId) : s.setLine i (s.line i) = s := by
  simp [State.setLine, State.line, set_get]
@[simp] theorem State.setLine_station (i : LineId) (x : Line) (j : StationId) : (s.setLine i x).station j = s.station j := rfl
@[simp] theorem State.setLine_axis (i : LineId) (x : Line) (j : AxisId) : (s.setLine i x).axis j = s.axis j := rfl
@[simp] theorem State.setLine_bridge (i : LineId) (x : Line) (j : AxisId) : (s.setLine i x).bridge j = s.bridge j := rfl
@[simp] theorem State.setLine_group (i : LineId) (x : Line) (j : GroupId) : (s.setLine i x).group j = s.group j := rfl
@[simp] theorem State.setLine_lamp (i : LineId) (x : Line) (j : LampId) : (s.setLine i x).lamp j = s.lamp j := rfl
@[simp] theorem State.setLine_tone (i : LineId) (x : Line) (j : ZoneId) : (s.setLine i x).tone j = s.tone j := rfl
@[simp] theorem State.setLine_slot (i : LineId) (x : Line) (j : SlotId) : (s.setLine i x).slot j = s.slot j := rfl

/-! ### setStation -/

@[simp] theorem State.setStation_now (i : StationId) (x : Station) : (s.setStation i x).now = s.now := rfl
@[simp] theorem State.setStation_lines (i : StationId) (x : Station) : (s.setStation i x).lines = s.lines := rfl
@[simp] theorem State.setStation_gallery (i : StationId) (x : Station) : (s.setStation i x).gallery = s.gallery := rfl
@[simp] theorem State.setStation_store (i : StationId) (x : Station) : (s.setStation i x).store = s.store := rfl
@[simp] theorem State.setStation_admission (i : StationId) (x : Station) : (s.setStation i x).admission = s.admission := rfl
@[simp] theorem State.setStation_axes (i : StationId) (x : Station) : (s.setStation i x).axes = s.axes := rfl
@[simp] theorem State.setStation_drive (i : StationId) (x : Station) : (s.setStation i x).drive = s.drive := rfl
@[simp] theorem State.setStation_safety (i : StationId) (x : Station) : (s.setStation i x).safety = s.safety := rfl
@[simp] theorem State.setStation_lamps (i : StationId) (x : Station) : (s.setStation i x).lamps = s.lamps := rfl
@[simp] theorem State.setStation_sound (i : StationId) (x : Station) : (s.setStation i x).sound = s.sound := rfl
@[simp] theorem State.setStation_alerts (i : StationId) (x : Station) : (s.setStation i x).alerts = s.alerts := rfl
@[simp] theorem State.setStation_link (i : StationId) (x : Station) : (s.setStation i x).link = s.link := rfl
@[simp] theorem State.setStation_work (i : StationId) (x : Station) : (s.setStation i x).work = s.work := rfl
@[simp] theorem State.setStation_arb (i : StationId) (x : Station) : (s.setStation i x).arb = s.arb := rfl
@[simp] theorem State.setStation_drawn (i : StationId) (x : Station) : (s.setStation i x).drawn = s.drawn := rfl
@[simp] theorem State.setStation_pending (i : StationId) (x : Station) : (s.setStation i x).pending = s.pending := rfl
@[simp] theorem State.setStation_line (i : StationId) (x : Station) (j : LineId) : (s.setStation i x).line j = s.line j := rfl
theorem State.setStation_station (i : StationId) (x : Station) (j : StationId) :
    (s.setStation i x).station j = if i = j then x else s.station j := by
  simp [State.setStation, State.station, get_set]
@[simp] theorem State.setStation_station_self (i : StationId) (x : Station) : (s.setStation i x).station i = x := by simp [State.setStation_station]
@[simp] theorem State.setStation_station_ne (i : StationId) (x : Station) (j : StationId) (h : i ≠ j) :
    (s.setStation i x).station j = s.station j := by simp [State.setStation_station, h]
@[simp] theorem State.setStation_station_eta (i : StationId) : s.setStation i (s.station i) = s := by
  simp [State.setStation, State.station, set_get]
@[simp] theorem State.setStation_axis (i : StationId) (x : Station) (j : AxisId) : (s.setStation i x).axis j = s.axis j := rfl
@[simp] theorem State.setStation_bridge (i : StationId) (x : Station) (j : AxisId) : (s.setStation i x).bridge j = s.bridge j := rfl
@[simp] theorem State.setStation_group (i : StationId) (x : Station) (j : GroupId) : (s.setStation i x).group j = s.group j := rfl
@[simp] theorem State.setStation_lamp (i : StationId) (x : Station) (j : LampId) : (s.setStation i x).lamp j = s.lamp j := rfl
@[simp] theorem State.setStation_tone (i : StationId) (x : Station) (j : ZoneId) : (s.setStation i x).tone j = s.tone j := rfl
@[simp] theorem State.setStation_slot (i : StationId) (x : Station) (j : SlotId) : (s.setStation i x).slot j = s.slot j := rfl

/-! ### setAxisQuiet -/

@[simp] theorem State.setAxisQuiet_now (i : AxisId) (x : Axis) : (s.setAxisQuiet i x).now = s.now := rfl
@[simp] theorem State.setAxisQuiet_lines (i : AxisId) (x : Axis) : (s.setAxisQuiet i x).lines = s.lines := rfl
@[simp] theorem State.setAxisQuiet_gallery (i : AxisId) (x : Axis) : (s.setAxisQuiet i x).gallery = s.gallery := rfl
@[simp] theorem State.setAxisQuiet_stations (i : AxisId) (x : Axis) : (s.setAxisQuiet i x).stations = s.stations := rfl
@[simp] theorem State.setAxisQuiet_store (i : AxisId) (x : Axis) : (s.setAxisQuiet i x).store = s.store := rfl
@[simp] theorem State.setAxisQuiet_admission (i : AxisId) (x : Axis) : (s.setAxisQuiet i x).admission = s.admission := rfl
@[simp] theorem State.setAxisQuiet_drive (i : AxisId) (x : Axis) : (s.setAxisQuiet i x).drive = s.drive := rfl
@[simp] theorem State.setAxisQuiet_safety (i : AxisId) (x : Axis) : (s.setAxisQuiet i x).safety = s.safety := rfl
@[simp] theorem State.setAxisQuiet_lamps (i : AxisId) (x : Axis) : (s.setAxisQuiet i x).lamps = s.lamps := rfl
@[simp] theorem State.setAxisQuiet_sound (i : AxisId) (x : Axis) : (s.setAxisQuiet i x).sound = s.sound := rfl
@[simp] theorem State.setAxisQuiet_alerts (i : AxisId) (x : Axis) : (s.setAxisQuiet i x).alerts = s.alerts := rfl
@[simp] theorem State.setAxisQuiet_link (i : AxisId) (x : Axis) : (s.setAxisQuiet i x).link = s.link := rfl
@[simp] theorem State.setAxisQuiet_work (i : AxisId) (x : Axis) : (s.setAxisQuiet i x).work = s.work := rfl
@[simp] theorem State.setAxisQuiet_arb (i : AxisId) (x : Axis) : (s.setAxisQuiet i x).arb = s.arb := rfl
@[simp] theorem State.setAxisQuiet_drawn (i : AxisId) (x : Axis) : (s.setAxisQuiet i x).drawn = s.drawn := rfl
@[simp] theorem State.setAxisQuiet_pending (i : AxisId) (x : Axis) : (s.setAxisQuiet i x).pending = s.pending := rfl
@[simp] theorem State.setAxisQuiet_axes_derate (i : AxisId) (x : Axis) : (s.setAxisQuiet i x).axes.derate = s.axes.derate := rfl
@[simp] theorem State.setAxisQuiet_line (i : AxisId) (x : Axis) (j : LineId) : (s.setAxisQuiet i x).line j = s.line j := rfl
@[simp] theorem State.setAxisQuiet_station (i : AxisId) (x : Axis) (j : StationId) : (s.setAxisQuiet i x).station j = s.station j := rfl
theorem State.setAxisQuiet_axis (i : AxisId) (x : Axis) (j : AxisId) :
    (s.setAxisQuiet i x).axis j = if i = j then x else s.axis j := by
  simp [State.setAxisQuiet, State.axis, get_set]
@[simp] theorem State.setAxisQuiet_axis_self (i : AxisId) (x : Axis) : (s.setAxisQuiet i x).axis i = x := by simp [State.setAxisQuiet_axis]
@[simp] theorem State.setAxisQuiet_axis_ne (i : AxisId) (x : Axis) (j : AxisId) (h : i ≠ j) :
    (s.setAxisQuiet i x).axis j = s.axis j := by simp [State.setAxisQuiet_axis, h]
@[simp] theorem State.setAxisQuiet_axis_eta (i : AxisId) : s.setAxisQuiet i (s.axis i) = s := by
  simp [State.setAxisQuiet, State.axis, set_get]
@[simp] theorem State.setAxisQuiet_bridge (i : AxisId) (x : Axis) (j : AxisId) : (s.setAxisQuiet i x).bridge j = s.bridge j := rfl
@[simp] theorem State.setAxisQuiet_group (i : AxisId) (x : Axis) (j : GroupId) : (s.setAxisQuiet i x).group j = s.group j := rfl
@[simp] theorem State.setAxisQuiet_lamp (i : AxisId) (x : Axis) (j : LampId) : (s.setAxisQuiet i x).lamp j = s.lamp j := rfl
@[simp] theorem State.setAxisQuiet_tone (i : AxisId) (x : Axis) (j : ZoneId) : (s.setAxisQuiet i x).tone j = s.tone j := rfl
@[simp] theorem State.setAxisQuiet_slot (i : AxisId) (x : Axis) (j : SlotId) : (s.setAxisQuiet i x).slot j = s.slot j := rfl

/-! ### setBridge -/

@[simp] theorem State.setBridge_now (i : AxisId) (x : Bridge) : (s.setBridge i x).now = s.now := rfl
@[simp] theorem State.setBridge_lines (i : AxisId) (x : Bridge) : (s.setBridge i x).lines = s.lines := rfl
@[simp] theorem State.setBridge_gallery (i : AxisId) (x : Bridge) : (s.setBridge i x).gallery = s.gallery := rfl
@[simp] theorem State.setBridge_stations (i : AxisId) (x : Bridge) : (s.setBridge i x).stations = s.stations := rfl
@[simp] theorem State.setBridge_store (i : AxisId) (x : Bridge) : (s.setBridge i x).store = s.store := rfl
@[simp] theorem State.setBridge_admission (i : AxisId) (x : Bridge) : (s.setBridge i x).admission = s.admission := rfl
@[simp] theorem State.setBridge_axes (i : AxisId) (x : Bridge) : (s.setBridge i x).axes = s.axes := rfl
@[simp] theorem State.setBridge_safety (i : AxisId) (x : Bridge) : (s.setBridge i x).safety = s.safety := rfl
@[simp] theorem State.setBridge_lamps (i : AxisId) (x : Bridge) : (s.setBridge i x).lamps = s.lamps := rfl
@[simp] theorem State.setBridge_sound (i : AxisId) (x : Bridge) : (s.setBridge i x).sound = s.sound := rfl
@[simp] theorem State.setBridge_alerts (i : AxisId) (x : Bridge) : (s.setBridge i x).alerts = s.alerts := rfl
@[simp] theorem State.setBridge_link (i : AxisId) (x : Bridge) : (s.setBridge i x).link = s.link := rfl
@[simp] theorem State.setBridge_work (i : AxisId) (x : Bridge) : (s.setBridge i x).work = s.work := rfl
@[simp] theorem State.setBridge_arb (i : AxisId) (x : Bridge) : (s.setBridge i x).arb = s.arb := rfl
@[simp] theorem State.setBridge_drawn (i : AxisId) (x : Bridge) : (s.setBridge i x).drawn = s.drawn := rfl
@[simp] theorem State.setBridge_pending (i : AxisId) (x : Bridge) : (s.setBridge i x).pending = s.pending := rfl
@[simp] theorem State.setBridge_drive_pwmKhz (i : AxisId) (x : Bridge) : (s.setBridge i x).drive.pwmKhz = s.drive.pwmKhz := rfl
@[simp] theorem State.setBridge_drive_deadTime (i : AxisId) (x : Bridge) : (s.setBridge i x).drive.deadTime = s.drive.deadTime := rfl
@[simp] theorem State.setBridge_line (i : AxisId) (x : Bridge) (j : LineId) : (s.setBridge i x).line j = s.line j := rfl
@[simp] theorem State.setBridge_station (i : AxisId) (x : Bridge) (j : StationId) : (s.setBridge i x).station j = s.station j := rfl
@[simp] theorem State.setBridge_axis (i : AxisId) (x : Bridge) (j : AxisId) : (s.setBridge i x).axis j = s.axis j := rfl
theorem State.setBridge_bridge (i : AxisId) (x : Bridge) (j : AxisId) :
    (s.setBridge i x).bridge j = if i = j then x else s.bridge j := by
  simp [State.setBridge, State.bridge, get_set]
@[simp] theorem State.setBridge_bridge_self (i : AxisId) (x : Bridge) : (s.setBridge i x).bridge i = x := by simp [State.setBridge_bridge]
@[simp] theorem State.setBridge_bridge_ne (i : AxisId) (x : Bridge) (j : AxisId) (h : i ≠ j) :
    (s.setBridge i x).bridge j = s.bridge j := by simp [State.setBridge_bridge, h]
@[simp] theorem State.setBridge_bridge_eta (i : AxisId) : s.setBridge i (s.bridge i) = s := by
  simp [State.setBridge, State.bridge, set_get]
@[simp] theorem State.setBridge_group (i : AxisId) (x : Bridge) (j : GroupId) : (s.setBridge i x).group j = s.group j := rfl
@[simp] theorem State.setBridge_lamp (i : AxisId) (x : Bridge) (j : LampId) : (s.setBridge i x).lamp j = s.lamp j := rfl
@[simp] theorem State.setBridge_tone (i : AxisId) (x : Bridge) (j : ZoneId) : (s.setBridge i x).tone j = s.tone j := rfl
@[simp] theorem State.setBridge_slot (i : AxisId) (x : Bridge) (j : SlotId) : (s.setBridge i x).slot j = s.slot j := rfl

/-! ### setGroup -/

@[simp] theorem State.setGroup_now (i : GroupId) (x : GuardGroup) : (s.setGroup i x).now = s.now := rfl
@[simp] theorem State.setGroup_lines (i : GroupId) (x : GuardGroup) : (s.setGroup i x).lines = s.lines := rfl
@[simp] theorem State.setGroup_gallery (i : GroupId) (x : GuardGroup) : (s.setGroup i x).gallery = s.gallery := rfl
@[simp] theorem State.setGroup_stations (i : GroupId) (x : GuardGroup) : (s.setGroup i x).stations = s.stations := rfl
@[simp] theorem State.setGroup_store (i : GroupId) (x : GuardGroup) : (s.setGroup i x).store = s.store := rfl
@[simp] theorem State.setGroup_admission (i : GroupId) (x : GuardGroup) : (s.setGroup i x).admission = s.admission := rfl
@[simp] theorem State.setGroup_axes (i : GroupId) (x : GuardGroup) : (s.setGroup i x).axes = s.axes := rfl
@[simp] theorem State.setGroup_drive (i : GroupId) (x : GuardGroup) : (s.setGroup i x).drive = s.drive := rfl
@[simp] theorem State.setGroup_lamps (i : GroupId) (x : GuardGroup) : (s.setGroup i x).lamps = s.lamps := rfl
@[simp] theorem State.setGroup_sound (i : GroupId) (x : GuardGroup) : (s.setGroup i x).sound = s.sound := rfl
@[simp] theorem State.setGroup_alerts (i : GroupId) (x : GuardGroup) : (s.setGroup i x).alerts = s.alerts := rfl
@[simp] theorem State.setGroup_link (i : GroupId) (x : GuardGroup) : (s.setGroup i x).link = s.link := rfl
@[simp] theorem State.setGroup_work (i : GroupId) (x : GuardGroup) : (s.setGroup i x).work = s.work := rfl
@[simp] theorem State.setGroup_arb (i : GroupId) (x : GuardGroup) : (s.setGroup i x).arb = s.arb := rfl
@[simp] theorem State.setGroup_drawn (i : GroupId) (x : GuardGroup) : (s.setGroup i x).drawn = s.drawn := rfl
@[simp] theorem State.setGroup_pending (i : GroupId) (x : GuardGroup) : (s.setGroup i x).pending = s.pending := rfl
@[simp] theorem State.setGroup_safety_supply (i : GroupId) (x : GuardGroup) : (s.setGroup i x).safety.supply = s.safety.supply := rfl
@[simp] theorem State.setGroup_line (i : GroupId) (x : GuardGroup) (j : LineId) : (s.setGroup i x).line j = s.line j := rfl
@[simp] theorem State.setGroup_station (i : GroupId) (x : GuardGroup) (j : StationId) : (s.setGroup i x).station j = s.station j := rfl
@[simp] theorem State.setGroup_axis (i : GroupId) (x : GuardGroup) (j : AxisId) : (s.setGroup i x).axis j = s.axis j := rfl
@[simp] theorem State.setGroup_bridge (i : GroupId) (x : GuardGroup) (j : AxisId) : (s.setGroup i x).bridge j = s.bridge j := rfl
theorem State.setGroup_group (i : GroupId) (x : GuardGroup) (j : GroupId) :
    (s.setGroup i x).group j = if i = j then x else s.group j := by
  simp [State.setGroup, State.group, get_set]
@[simp] theorem State.setGroup_group_self (i : GroupId) (x : GuardGroup) : (s.setGroup i x).group i = x := by simp [State.setGroup_group]
@[simp] theorem State.setGroup_group_ne (i : GroupId) (x : GuardGroup) (j : GroupId) (h : i ≠ j) :
    (s.setGroup i x).group j = s.group j := by simp [State.setGroup_group, h]
@[simp] theorem State.setGroup_group_eta (i : GroupId) : s.setGroup i (s.group i) = s := by
  simp [State.setGroup, State.group, set_get]
@[simp] theorem State.setGroup_lamp (i : GroupId) (x : GuardGroup) (j : LampId) : (s.setGroup i x).lamp j = s.lamp j := rfl
@[simp] theorem State.setGroup_tone (i : GroupId) (x : GuardGroup) (j : ZoneId) : (s.setGroup i x).tone j = s.tone j := rfl
@[simp] theorem State.setGroup_slot (i : GroupId) (x : GuardGroup) (j : SlotId) : (s.setGroup i x).slot j = s.slot j := rfl

/-! ### setSupply -/

@[simp] theorem State.setSupply_now (x : Supply) : (s.setSupply x).now = s.now := rfl
@[simp] theorem State.setSupply_lines (x : Supply) : (s.setSupply x).lines = s.lines := rfl
@[simp] theorem State.setSupply_gallery (x : Supply) : (s.setSupply x).gallery = s.gallery := rfl
@[simp] theorem State.setSupply_stations (x : Supply) : (s.setSupply x).stations = s.stations := rfl
@[simp] theorem State.setSupply_store (x : Supply) : (s.setSupply x).store = s.store := rfl
@[simp] theorem State.setSupply_admission (x : Supply) : (s.setSupply x).admission = s.admission := rfl
@[simp] theorem State.setSupply_axes (x : Supply) : (s.setSupply x).axes = s.axes := rfl
@[simp] theorem State.setSupply_drive (x : Supply) : (s.setSupply x).drive = s.drive := rfl
@[simp] theorem State.setSupply_lamps (x : Supply) : (s.setSupply x).lamps = s.lamps := rfl
@[simp] theorem State.setSupply_sound (x : Supply) : (s.setSupply x).sound = s.sound := rfl
@[simp] theorem State.setSupply_alerts (x : Supply) : (s.setSupply x).alerts = s.alerts := rfl
@[simp] theorem State.setSupply_link (x : Supply) : (s.setSupply x).link = s.link := rfl
@[simp] theorem State.setSupply_work (x : Supply) : (s.setSupply x).work = s.work := rfl
@[simp] theorem State.setSupply_arb (x : Supply) : (s.setSupply x).arb = s.arb := rfl
@[simp] theorem State.setSupply_drawn (x : Supply) : (s.setSupply x).drawn = s.drawn := rfl
@[simp] theorem State.setSupply_pending (x : Supply) : (s.setSupply x).pending = s.pending := rfl
@[simp] theorem State.setSupply_safety_groups (x : Supply) : (s.setSupply x).safety.groups = s.safety.groups := rfl
@[simp] theorem State.setSupply_safety_supply (x : Supply) : (s.setSupply x).safety.supply = x := rfl
@[simp] theorem State.setSupply_line (x : Supply) (j : LineId) : (s.setSupply x).line j = s.line j := rfl
@[simp] theorem State.setSupply_station (x : Supply) (j : StationId) : (s.setSupply x).station j = s.station j := rfl
@[simp] theorem State.setSupply_axis (x : Supply) (j : AxisId) : (s.setSupply x).axis j = s.axis j := rfl
@[simp] theorem State.setSupply_bridge (x : Supply) (j : AxisId) : (s.setSupply x).bridge j = s.bridge j := rfl
@[simp] theorem State.setSupply_group (x : Supply) (j : GroupId) : (s.setSupply x).group j = s.group j := rfl
@[simp] theorem State.setSupply_lamp (x : Supply) (j : LampId) : (s.setSupply x).lamp j = s.lamp j := rfl
@[simp] theorem State.setSupply_tone (x : Supply) (j : ZoneId) : (s.setSupply x).tone j = s.tone j := rfl
@[simp] theorem State.setSupply_slot (x : Supply) (j : SlotId) : (s.setSupply x).slot j = s.slot j := rfl

/-! ### setLamp -/

@[simp] theorem State.setLamp_now (i : LampId) (x : LampState) : (s.setLamp i x).now = s.now := rfl
@[simp] theorem State.setLamp_lines (i : LampId) (x : LampState) : (s.setLamp i x).lines = s.lines := rfl
@[simp] theorem State.setLamp_gallery (i : LampId) (x : LampState) : (s.setLamp i x).gallery = s.gallery := rfl
@[simp] theorem State.setLamp_stations (i : LampId) (x : LampState) : (s.setLamp i x).stations = s.stations := rfl
@[simp] theorem State.setLamp_store (i : LampId) (x : LampState) : (s.setLamp i x).store = s.store := rfl
@[simp] theorem State.setLamp_admission (i : LampId) (x : LampState) : (s.setLamp i x).admission = s.admission := rfl
@[simp] theorem State.setLamp_axes (i : LampId) (x : LampState) : (s.setLamp i x).axes = s.axes := rfl
@[simp] theorem State.setLamp_drive (i : LampId) (x : LampState) : (s.setLamp i x).drive = s.drive := rfl
@[simp] theorem State.setLamp_safety (i : LampId) (x : LampState) : (s.setLamp i x).safety = s.safety := rfl
@[simp] theorem State.setLamp_sound (i : LampId) (x : LampState) : (s.setLamp i x).sound = s.sound := rfl
@[simp] theorem State.setLamp_alerts (i : LampId) (x : LampState) : (s.setLamp i x).alerts = s.alerts := rfl
@[simp] theorem State.setLamp_link (i : LampId) (x : LampState) : (s.setLamp i x).link = s.link := rfl
@[simp] theorem State.setLamp_work (i : LampId) (x : LampState) : (s.setLamp i x).work = s.work := rfl
@[simp] theorem State.setLamp_arb (i : LampId) (x : LampState) : (s.setLamp i x).arb = s.arb := rfl
@[simp] theorem State.setLamp_drawn (i : LampId) (x : LampState) : (s.setLamp i x).drawn = s.drawn := rfl
@[simp] theorem State.setLamp_pending (i : LampId) (x : LampState) : (s.setLamp i x).pending = s.pending := rfl
@[simp] theorem State.setLamp_lamps_lit (i : LampId) (x : LampState) : (s.setLamp i x).lamps.lit = s.lamps.lit := rfl
@[simp] theorem State.setLamp_lamps_half (i : LampId) (x : LampState) : (s.setLamp i x).lamps.half = s.lamps.half := rfl
@[simp] theorem State.setLamp_line (i : LampId) (x : LampState) (j : LineId) : (s.setLamp i x).line j = s.line j := rfl
@[simp] theorem State.setLamp_station (i : LampId) (x : LampState) (j : StationId) : (s.setLamp i x).station j = s.station j := rfl
@[simp] theorem State.setLamp_axis (i : LampId) (x : LampState) (j : AxisId) : (s.setLamp i x).axis j = s.axis j := rfl
@[simp] theorem State.setLamp_bridge (i : LampId) (x : LampState) (j : AxisId) : (s.setLamp i x).bridge j = s.bridge j := rfl
@[simp] theorem State.setLamp_group (i : LampId) (x : LampState) (j : GroupId) : (s.setLamp i x).group j = s.group j := rfl
theorem State.setLamp_lamp (i : LampId) (x : LampState) (j : LampId) :
    (s.setLamp i x).lamp j = if i = j then x else s.lamp j := by
  simp [State.setLamp, State.lamp, get_set]
@[simp] theorem State.setLamp_lamp_self (i : LampId) (x : LampState) : (s.setLamp i x).lamp i = x := by simp [State.setLamp_lamp]
@[simp] theorem State.setLamp_lamp_ne (i : LampId) (x : LampState) (j : LampId) (h : i ≠ j) :
    (s.setLamp i x).lamp j = s.lamp j := by simp [State.setLamp_lamp, h]
@[simp] theorem State.setLamp_lamp_eta (i : LampId) : s.setLamp i (s.lamp i) = s := by
  simp [State.setLamp, State.lamp, set_get]
@[simp] theorem State.setLamp_tone (i : LampId) (x : LampState) (j : ZoneId) : (s.setLamp i x).tone j = s.tone j := rfl
@[simp] theorem State.setLamp_slot (i : LampId) (x : LampState) (j : SlotId) : (s.setLamp i x).slot j = s.slot j := rfl

/-! ### setTone -/

@[simp] theorem State.setTone_now (i : ZoneId) (x : ToneOut) : (s.setTone i x).now = s.now := rfl
@[simp] theorem State.setTone_lines (i : ZoneId) (x : ToneOut) : (s.setTone i x).lines = s.lines := rfl
@[simp] theorem State.setTone_gallery (i : ZoneId) (x : ToneOut) : (s.setTone i x).gallery = s.gallery := rfl
@[simp] theorem State.setTone_stations (i : ZoneId) (x : ToneOut) : (s.setTone i x).stations = s.stations := rfl
@[simp] theorem State.setTone_store (i : ZoneId) (x : ToneOut) : (s.setTone i x).store = s.store := rfl
@[simp] theorem State.setTone_admission (i : ZoneId) (x : ToneOut) : (s.setTone i x).admission = s.admission := rfl
@[simp] theorem State.setTone_axes (i : ZoneId) (x : ToneOut) : (s.setTone i x).axes = s.axes := rfl
@[simp] theorem State.setTone_drive (i : ZoneId) (x : ToneOut) : (s.setTone i x).drive = s.drive := rfl
@[simp] theorem State.setTone_safety (i : ZoneId) (x : ToneOut) : (s.setTone i x).safety = s.safety := rfl
@[simp] theorem State.setTone_lamps (i : ZoneId) (x : ToneOut) : (s.setTone i x).lamps = s.lamps := rfl
@[simp] theorem State.setTone_alerts (i : ZoneId) (x : ToneOut) : (s.setTone i x).alerts = s.alerts := rfl
@[simp] theorem State.setTone_link (i : ZoneId) (x : ToneOut) : (s.setTone i x).link = s.link := rfl
@[simp] theorem State.setTone_work (i : ZoneId) (x : ToneOut) : (s.setTone i x).work = s.work := rfl
@[simp] theorem State.setTone_arb (i : ZoneId) (x : ToneOut) : (s.setTone i x).arb = s.arb := rfl
@[simp] theorem State.setTone_drawn (i : ZoneId) (x : ToneOut) : (s.setTone i x).drawn = s.drawn := rfl
@[simp] theorem State.setTone_pending (i : ZoneId) (x : ToneOut) : (s.setTone i x).pending = s.pending := rfl
@[simp] theorem State.setTone_sound_chime (i : ZoneId) (x : ToneOut) : (s.setTone i x).sound.chime = s.sound.chime := rfl
@[simp] theorem State.setTone_line (i : ZoneId) (x : ToneOut) (j : LineId) : (s.setTone i x).line j = s.line j := rfl
@[simp] theorem State.setTone_station (i : ZoneId) (x : ToneOut) (j : StationId) : (s.setTone i x).station j = s.station j := rfl
@[simp] theorem State.setTone_axis (i : ZoneId) (x : ToneOut) (j : AxisId) : (s.setTone i x).axis j = s.axis j := rfl
@[simp] theorem State.setTone_bridge (i : ZoneId) (x : ToneOut) (j : AxisId) : (s.setTone i x).bridge j = s.bridge j := rfl
@[simp] theorem State.setTone_group (i : ZoneId) (x : ToneOut) (j : GroupId) : (s.setTone i x).group j = s.group j := rfl
@[simp] theorem State.setTone_lamp (i : ZoneId) (x : ToneOut) (j : LampId) : (s.setTone i x).lamp j = s.lamp j := rfl
theorem State.setTone_tone (i : ZoneId) (x : ToneOut) (j : ZoneId) :
    (s.setTone i x).tone j = if i = j then x else s.tone j := by
  simp [State.setTone, State.tone, get_set]
@[simp] theorem State.setTone_tone_self (i : ZoneId) (x : ToneOut) : (s.setTone i x).tone i = x := by simp [State.setTone_tone]
@[simp] theorem State.setTone_tone_ne (i : ZoneId) (x : ToneOut) (j : ZoneId) (h : i ≠ j) :
    (s.setTone i x).tone j = s.tone j := by simp [State.setTone_tone, h]
@[simp] theorem State.setTone_tone_eta (i : ZoneId) : s.setTone i (s.tone i) = s := by
  simp [State.setTone, State.tone, set_get]
@[simp] theorem State.setTone_slot (i : ZoneId) (x : ToneOut) (j : SlotId) : (s.setTone i x).slot j = s.slot j := rfl

/-! ### setChime -/

@[simp] theorem State.setChime_now (x : Chime) : (s.setChime x).now = s.now := rfl
@[simp] theorem State.setChime_lines (x : Chime) : (s.setChime x).lines = s.lines := rfl
@[simp] theorem State.setChime_gallery (x : Chime) : (s.setChime x).gallery = s.gallery := rfl
@[simp] theorem State.setChime_stations (x : Chime) : (s.setChime x).stations = s.stations := rfl
@[simp] theorem State.setChime_store (x : Chime) : (s.setChime x).store = s.store := rfl
@[simp] theorem State.setChime_admission (x : Chime) : (s.setChime x).admission = s.admission := rfl
@[simp] theorem State.setChime_axes (x : Chime) : (s.setChime x).axes = s.axes := rfl
@[simp] theorem State.setChime_drive (x : Chime) : (s.setChime x).drive = s.drive := rfl
@[simp] theorem State.setChime_safety (x : Chime) : (s.setChime x).safety = s.safety := rfl
@[simp] theorem State.setChime_lamps (x : Chime) : (s.setChime x).lamps = s.lamps := rfl
@[simp] theorem State.setChime_alerts (x : Chime) : (s.setChime x).alerts = s.alerts := rfl
@[simp] theorem State.setChime_link (x : Chime) : (s.setChime x).link = s.link := rfl
@[simp] theorem State.setChime_work (x : Chime) : (s.setChime x).work = s.work := rfl
@[simp] theorem State.setChime_arb (x : Chime) : (s.setChime x).arb = s.arb := rfl
@[simp] theorem State.setChime_drawn (x : Chime) : (s.setChime x).drawn = s.drawn := rfl
@[simp] theorem State.setChime_pending (x : Chime) : (s.setChime x).pending = s.pending := rfl
@[simp] theorem State.setChime_sound_tones (x : Chime) : (s.setChime x).sound.tones = s.sound.tones := rfl
@[simp] theorem State.setChime_sound_chime (x : Chime) : (s.setChime x).sound.chime = x := rfl
@[simp] theorem State.setChime_line (x : Chime) (j : LineId) : (s.setChime x).line j = s.line j := rfl
@[simp] theorem State.setChime_station (x : Chime) (j : StationId) : (s.setChime x).station j = s.station j := rfl
@[simp] theorem State.setChime_axis (x : Chime) (j : AxisId) : (s.setChime x).axis j = s.axis j := rfl
@[simp] theorem State.setChime_bridge (x : Chime) (j : AxisId) : (s.setChime x).bridge j = s.bridge j := rfl
@[simp] theorem State.setChime_group (x : Chime) (j : GroupId) : (s.setChime x).group j = s.group j := rfl
@[simp] theorem State.setChime_lamp (x : Chime) (j : LampId) : (s.setChime x).lamp j = s.lamp j := rfl
@[simp] theorem State.setChime_tone (x : Chime) (j : ZoneId) : (s.setChime x).tone j = s.tone j := rfl
@[simp] theorem State.setChime_slot (x : Chime) (j : SlotId) : (s.setChime x).slot j = s.slot j := rfl

/-! ### setSlot -/

@[simp] theorem State.setSlot_now (i : SlotId) (x : Option Alert) : (s.setSlot i x).now = s.now := rfl
@[simp] theorem State.setSlot_lines (i : SlotId) (x : Option Alert) : (s.setSlot i x).lines = s.lines := rfl
@[simp] theorem State.setSlot_gallery (i : SlotId) (x : Option Alert) : (s.setSlot i x).gallery = s.gallery := rfl
@[simp] theorem State.setSlot_stations (i : SlotId) (x : Option Alert) : (s.setSlot i x).stations = s.stations := rfl
@[simp] theorem State.setSlot_store (i : SlotId) (x : Option Alert) : (s.setSlot i x).store = s.store := rfl
@[simp] theorem State.setSlot_admission (i : SlotId) (x : Option Alert) : (s.setSlot i x).admission = s.admission := rfl
@[simp] theorem State.setSlot_axes (i : SlotId) (x : Option Alert) : (s.setSlot i x).axes = s.axes := rfl
@[simp] theorem State.setSlot_drive (i : SlotId) (x : Option Alert) : (s.setSlot i x).drive = s.drive := rfl
@[simp] theorem State.setSlot_safety (i : SlotId) (x : Option Alert) : (s.setSlot i x).safety = s.safety := rfl
@[simp] theorem State.setSlot_lamps (i : SlotId) (x : Option Alert) : (s.setSlot i x).lamps = s.lamps := rfl
@[simp] theorem State.setSlot_sound (i : SlotId) (x : Option Alert) : (s.setSlot i x).sound = s.sound := rfl
@[simp] theorem State.setSlot_link (i : SlotId) (x : Option Alert) : (s.setSlot i x).link = s.link := rfl
@[simp] theorem State.setSlot_work (i : SlotId) (x : Option Alert) : (s.setSlot i x).work = s.work := rfl
@[simp] theorem State.setSlot_arb (i : SlotId) (x : Option Alert) : (s.setSlot i x).arb = s.arb := rfl
@[simp] theorem State.setSlot_drawn (i : SlotId) (x : Option Alert) : (s.setSlot i x).drawn = s.drawn := rfl
@[simp] theorem State.setSlot_pending (i : SlotId) (x : Option Alert) : (s.setSlot i x).pending = s.pending := rfl
@[simp] theorem State.setSlot_alerts_masks (i : SlotId) (x : Option Alert) : (s.setSlot i x).alerts.masks = s.alerts.masks := rfl
@[simp] theorem State.setSlot_alerts_quiet (i : SlotId) (x : Option Alert) : (s.setSlot i x).alerts.quiet = s.alerts.quiet := rfl
@[simp] theorem State.setSlot_alerts_overflow (i : SlotId) (x : Option Alert) : (s.setSlot i x).alerts.overflow = s.alerts.overflow := rfl
@[simp] theorem State.setSlot_alerts_chimeRepeatAt (i : SlotId) (x : Option Alert) : (s.setSlot i x).alerts.chimeRepeatAt = s.alerts.chimeRepeatAt := rfl
@[simp] theorem State.setSlot_line (i : SlotId) (x : Option Alert) (j : LineId) : (s.setSlot i x).line j = s.line j := rfl
@[simp] theorem State.setSlot_station (i : SlotId) (x : Option Alert) (j : StationId) : (s.setSlot i x).station j = s.station j := rfl
@[simp] theorem State.setSlot_axis (i : SlotId) (x : Option Alert) (j : AxisId) : (s.setSlot i x).axis j = s.axis j := rfl
@[simp] theorem State.setSlot_bridge (i : SlotId) (x : Option Alert) (j : AxisId) : (s.setSlot i x).bridge j = s.bridge j := rfl
@[simp] theorem State.setSlot_group (i : SlotId) (x : Option Alert) (j : GroupId) : (s.setSlot i x).group j = s.group j := rfl
@[simp] theorem State.setSlot_lamp (i : SlotId) (x : Option Alert) (j : LampId) : (s.setSlot i x).lamp j = s.lamp j := rfl
@[simp] theorem State.setSlot_tone (i : SlotId) (x : Option Alert) (j : ZoneId) : (s.setSlot i x).tone j = s.tone j := rfl
theorem State.setSlot_slot (i : SlotId) (x : Option Alert) (j : SlotId) :
    (s.setSlot i x).slot j = if i = j then x else s.slot j := by
  simp [State.setSlot, State.slot, get_set]
@[simp] theorem State.setSlot_slot_self (i : SlotId) (x : Option Alert) : (s.setSlot i x).slot i = x := by simp [State.setSlot_slot]
@[simp] theorem State.setSlot_slot_ne (i : SlotId) (x : Option Alert) (j : SlotId) (h : i ≠ j) :
    (s.setSlot i x).slot j = s.slot j := by simp [State.setSlot_slot, h]
@[simp] theorem State.setSlot_slot_eta (i : SlotId) : s.setSlot i (s.slot i) = s := by
  simp [State.setSlot, State.slot, set_get]

/-! ### setLink -/

@[simp] theorem State.setLink_now (x : LinkUnit) : (s.setLink x).now = s.now := rfl
@[simp] theorem State.setLink_lines (x : LinkUnit) : (s.setLink x).lines = s.lines := rfl
@[simp] theorem State.setLink_gallery (x : LinkUnit) : (s.setLink x).gallery = s.gallery := rfl
@[simp] theorem State.setLink_stations (x : LinkUnit) : (s.setLink x).stations = s.stations := rfl
@[simp] theorem State.setLink_store (x : LinkUnit) : (s.setLink x).store = s.store := rfl
@[simp] theorem State.setLink_admission (x : LinkUnit) : (s.setLink x).admission = s.admission := rfl
@[simp] theorem State.setLink_axes (x : LinkUnit) : (s.setLink x).axes = s.axes := rfl
@[simp] theorem State.setLink_drive (x : LinkUnit) : (s.setLink x).drive = s.drive := rfl
@[simp] theorem State.setLink_safety (x : LinkUnit) : (s.setLink x).safety = s.safety := rfl
@[simp] theorem State.setLink_lamps (x : LinkUnit) : (s.setLink x).lamps = s.lamps := rfl
@[simp] theorem State.setLink_sound (x : LinkUnit) : (s.setLink x).sound = s.sound := rfl
@[simp] theorem State.setLink_alerts (x : LinkUnit) : (s.setLink x).alerts = s.alerts := rfl
@[simp] theorem State.setLink_link (x : LinkUnit) : (s.setLink x).link = x := rfl
@[simp] theorem State.setLink_work (x : LinkUnit) : (s.setLink x).work = s.work := rfl
@[simp] theorem State.setLink_arb (x : LinkUnit) : (s.setLink x).arb = s.arb := rfl
@[simp] theorem State.setLink_drawn (x : LinkUnit) : (s.setLink x).drawn = s.drawn := rfl
@[simp] theorem State.setLink_pending (x : LinkUnit) : (s.setLink x).pending = s.pending := rfl
@[simp] theorem State.setLink_line (x : LinkUnit) (j : LineId) : (s.setLink x).line j = s.line j := rfl
@[simp] theorem State.setLink_station (x : LinkUnit) (j : StationId) : (s.setLink x).station j = s.station j := rfl
@[simp] theorem State.setLink_axis (x : LinkUnit) (j : AxisId) : (s.setLink x).axis j = s.axis j := rfl
@[simp] theorem State.setLink_bridge (x : LinkUnit) (j : AxisId) : (s.setLink x).bridge j = s.bridge j := rfl
@[simp] theorem State.setLink_group (x : LinkUnit) (j : GroupId) : (s.setLink x).group j = s.group j := rfl
@[simp] theorem State.setLink_lamp (x : LinkUnit) (j : LampId) : (s.setLink x).lamp j = s.lamp j := rfl
@[simp] theorem State.setLink_tone (x : LinkUnit) (j : ZoneId) : (s.setLink x).tone j = s.tone j := rfl
@[simp] theorem State.setLink_slot (x : LinkUnit) (j : SlotId) : (s.setLink x).slot j = s.slot j := rfl

/-! ### setAdmission -/

@[simp] theorem State.setAdmission_now (x : Admission) : (s.setAdmission x).now = s.now := rfl
@[simp] theorem State.setAdmission_lines (x : Admission) : (s.setAdmission x).lines = s.lines := rfl
@[simp] theorem State.setAdmission_gallery (x : Admission) : (s.setAdmission x).gallery = s.gallery := rfl
@[simp] theorem State.setAdmission_stations (x : Admission) : (s.setAdmission x).stations = s.stations := rfl
@[simp] theorem State.setAdmission_store (x : Admission) : (s.setAdmission x).store = s.store := rfl
@[simp] theorem State.setAdmission_admission (x : Admission) : (s.setAdmission x).admission = x := rfl
@[simp] theorem State.setAdmission_axes (x : Admission) : (s.setAdmission x).axes = s.axes := rfl
@[simp] theorem State.setAdmission_drive (x : Admission) : (s.setAdmission x).drive = s.drive := rfl
@[simp] theorem State.setAdmission_safety (x : Admission) : (s.setAdmission x).safety = s.safety := rfl
@[simp] theorem State.setAdmission_lamps (x : Admission) : (s.setAdmission x).lamps = s.lamps := rfl
@[simp] theorem State.setAdmission_sound (x : Admission) : (s.setAdmission x).sound = s.sound := rfl
@[simp] theorem State.setAdmission_alerts (x : Admission) : (s.setAdmission x).alerts = s.alerts := rfl
@[simp] theorem State.setAdmission_link (x : Admission) : (s.setAdmission x).link = s.link := rfl
@[simp] theorem State.setAdmission_work (x : Admission) : (s.setAdmission x).work = s.work := rfl
@[simp] theorem State.setAdmission_arb (x : Admission) : (s.setAdmission x).arb = s.arb := rfl
@[simp] theorem State.setAdmission_drawn (x : Admission) : (s.setAdmission x).drawn = s.drawn := rfl
@[simp] theorem State.setAdmission_pending (x : Admission) : (s.setAdmission x).pending = s.pending := rfl
@[simp] theorem State.setAdmission_line (x : Admission) (j : LineId) : (s.setAdmission x).line j = s.line j := rfl
@[simp] theorem State.setAdmission_station (x : Admission) (j : StationId) : (s.setAdmission x).station j = s.station j := rfl
@[simp] theorem State.setAdmission_axis (x : Admission) (j : AxisId) : (s.setAdmission x).axis j = s.axis j := rfl
@[simp] theorem State.setAdmission_bridge (x : Admission) (j : AxisId) : (s.setAdmission x).bridge j = s.bridge j := rfl
@[simp] theorem State.setAdmission_group (x : Admission) (j : GroupId) : (s.setAdmission x).group j = s.group j := rfl
@[simp] theorem State.setAdmission_lamp (x : Admission) (j : LampId) : (s.setAdmission x).lamp j = s.lamp j := rfl
@[simp] theorem State.setAdmission_tone (x : Admission) (j : ZoneId) : (s.setAdmission x).tone j = s.tone j := rfl
@[simp] theorem State.setAdmission_slot (x : Admission) (j : SlotId) : (s.setAdmission x).slot j = s.slot j := rfl

/-! ### setGallery -/

@[simp] theorem State.setGallery_now (x : Gallery) : (s.setGallery x).now = s.now := rfl
@[simp] theorem State.setGallery_lines (x : Gallery) : (s.setGallery x).lines = s.lines := rfl
@[simp] theorem State.setGallery_gallery (x : Gallery) : (s.setGallery x).gallery = x := rfl
@[simp] theorem State.setGallery_stations (x : Gallery) : (s.setGallery x).stations = s.stations := rfl
@[simp] theorem State.setGallery_store (x : Gallery) : (s.setGallery x).store = s.store := rfl
@[simp] theorem State.setGallery_admission (x : Gallery) : (s.setGallery x).admission = s.admission := rfl
@[simp] theorem State.setGallery_axes (x : Gallery) : (s.setGallery x).axes = s.axes := rfl
@[simp] theorem State.setGallery_drive (x : Gallery) : (s.setGallery x).drive = s.drive := rfl
@[simp] theorem State.setGallery_safety (x : Gallery) : (s.setGallery x).safety = s.safety := rfl
@[simp] theorem State.setGallery_lamps (x : Gallery) : (s.setGallery x).lamps = s.lamps := rfl
@[simp] theorem State.setGallery_sound (x : Gallery) : (s.setGallery x).sound = s.sound := rfl
@[simp] theorem State.setGallery_alerts (x : Gallery) : (s.setGallery x).alerts = s.alerts := rfl
@[simp] theorem State.setGallery_link (x : Gallery) : (s.setGallery x).link = s.link := rfl
@[simp] theorem State.setGallery_work (x : Gallery) : (s.setGallery x).work = s.work := rfl
@[simp] theorem State.setGallery_arb (x : Gallery) : (s.setGallery x).arb = s.arb := rfl
@[simp] theorem State.setGallery_drawn (x : Gallery) : (s.setGallery x).drawn = s.drawn := rfl
@[simp] theorem State.setGallery_pending (x : Gallery) : (s.setGallery x).pending = s.pending := rfl
@[simp] theorem State.setGallery_line (x : Gallery) (j : LineId) : (s.setGallery x).line j = s.line j := rfl
@[simp] theorem State.setGallery_station (x : Gallery) (j : StationId) : (s.setGallery x).station j = s.station j := rfl
@[simp] theorem State.setGallery_axis (x : Gallery) (j : AxisId) : (s.setGallery x).axis j = s.axis j := rfl
@[simp] theorem State.setGallery_bridge (x : Gallery) (j : AxisId) : (s.setGallery x).bridge j = s.bridge j := rfl
@[simp] theorem State.setGallery_group (x : Gallery) (j : GroupId) : (s.setGallery x).group j = s.group j := rfl
@[simp] theorem State.setGallery_lamp (x : Gallery) (j : LampId) : (s.setGallery x).lamp j = s.lamp j := rfl
@[simp] theorem State.setGallery_tone (x : Gallery) (j : ZoneId) : (s.setGallery x).tone j = s.tone j := rfl
@[simp] theorem State.setGallery_slot (x : Gallery) (j : SlotId) : (s.setGallery x).slot j = s.slot j := rfl

/-! ### setWork -/

@[simp] theorem State.setWork_now (x : Work) : (s.setWork x).now = s.now := rfl
@[simp] theorem State.setWork_lines (x : Work) : (s.setWork x).lines = s.lines := rfl
@[simp] theorem State.setWork_gallery (x : Work) : (s.setWork x).gallery = s.gallery := rfl
@[simp] theorem State.setWork_stations (x : Work) : (s.setWork x).stations = s.stations := rfl
@[simp] theorem State.setWork_store (x : Work) : (s.setWork x).store = s.store := rfl
@[simp] theorem State.setWork_admission (x : Work) : (s.setWork x).admission = s.admission := rfl
@[simp] theorem State.setWork_axes (x : Work) : (s.setWork x).axes = s.axes := rfl
@[simp] theorem State.setWork_drive (x : Work) : (s.setWork x).drive = s.drive := rfl
@[simp] theorem State.setWork_safety (x : Work) : (s.setWork x).safety = s.safety := rfl
@[simp] theorem State.setWork_lamps (x : Work) : (s.setWork x).lamps = s.lamps := rfl
@[simp] theorem State.setWork_sound (x : Work) : (s.setWork x).sound = s.sound := rfl
@[simp] theorem State.setWork_alerts (x : Work) : (s.setWork x).alerts = s.alerts := rfl
@[simp] theorem State.setWork_link (x : Work) : (s.setWork x).link = s.link := rfl
@[simp] theorem State.setWork_work (x : Work) : (s.setWork x).work = x := rfl
@[simp] theorem State.setWork_arb (x : Work) : (s.setWork x).arb = s.arb := rfl
@[simp] theorem State.setWork_drawn (x : Work) : (s.setWork x).drawn = s.drawn := rfl
@[simp] theorem State.setWork_pending (x : Work) : (s.setWork x).pending = s.pending := rfl
@[simp] theorem State.setWork_line (x : Work) (j : LineId) : (s.setWork x).line j = s.line j := rfl
@[simp] theorem State.setWork_station (x : Work) (j : StationId) : (s.setWork x).station j = s.station j := rfl
@[simp] theorem State.setWork_axis (x : Work) (j : AxisId) : (s.setWork x).axis j = s.axis j := rfl
@[simp] theorem State.setWork_bridge (x : Work) (j : AxisId) : (s.setWork x).bridge j = s.bridge j := rfl
@[simp] theorem State.setWork_group (x : Work) (j : GroupId) : (s.setWork x).group j = s.group j := rfl
@[simp] theorem State.setWork_lamp (x : Work) (j : LampId) : (s.setWork x).lamp j = s.lamp j := rfl
@[simp] theorem State.setWork_tone (x : Work) (j : ZoneId) : (s.setWork x).tone j = s.tone j := rfl
@[simp] theorem State.setWork_slot (x : Work) (j : SlotId) : (s.setWork x).slot j = s.slot j := rfl

end Sys2Proof.Machine
end

