-- ==== Sys2Proof/Laws/Kept.lean ====
section
/-! SUPPORT. What most of the part's work leaves alone: `State.kept` collects the stored settings, the raw counts and error
counts of the encoders, what decides which axes are braked, the link but for its notices, whether these fit
their queue, and the clock; and one lemma per
shared operation says which of them it keeps. -/

namespace Sys2Proof.Machine

open Sys2Proof

/-- Every stored setting: the step store, the records of gallery, stations, lines, axes, group zones and supply, whether the
safety settings are fixed, and the alert masks. -/
structure Settings where
  store : List Host.Cell
  gallery : GalleryCfg
  fixed : Bool
  station : StationId → StationRec
  line : LineId → LineCfg
  axis : AxisId → AxisRec
  zone : GroupId → ZoneId
  supply : SupplyCfg
  masks : BitVec 4
  quiet : Bool

/-- What decides which axes are braked by safety, and which are. -/
structure Brakes where
  braked : AxisId → Bool
  group : GroupId → GuardState
  lines : GroupId → LineSet
  supply : SupplyState

/-- The counters of an encoder. -/
structure Counter where
  raw : Int
  held : Option (Bool × Bool)
  err : Nat

/-- Settings, encoder counters and clocks. -/
structure Core where
  settings : Settings
  counter : AxisId → Counter
  now : Time
  pending : List Instr
  sampled : Bool × Time
  flash : Bool × Nat
  pwm : Nat × Nat

/-- What a command leaves alone unless its own rule changes it. -/
structure Kept where
  core : Core
  brakes : Brakes
  link : LinkUnit × Bool

/-- `State.kept` of a state; of the notices only whether they fit their queue. -/
def State.kept (s : State) : Kept where
  core :=
    { settings :=
        { store := s.store, gallery := s.gallery.cfg, fixed := s.gallery.safetyFixed, station := fun i => (s.station i).cfg,
          line := fun i => (s.line i).cfg, axis := fun i => (s.axis i).cfg, zone := fun i => (s.group i).zone,
          supply := s.safety.supply.cfg, masks := s.alerts.masks, quiet := s.alerts.quiet }
      counter := fun i => ⟨(s.bridge i).raw, (s.bridge i).held, (s.bridge i).err⟩
      now := s.now
      pending := s.pending
      sampled := (s.lines.sampled, s.lines.sampleTime)
      flash := (s.lamps.lit, s.lamps.half)
      pwm := (s.drive.pwmKhz, s.drive.deadTime) }
  brakes :=
    { braked := fun i => (s.axis i).braked, group := fun i => (s.group i).state, lines := fun i => (s.group i).brokenLines,
      supply := s.safety.supply.state }
  link := ({ s.link with notices := [], noticesLost := false }, s.link.notices.length.ble s.link.noticeRoom)

/-! ### Readings of what is kept -/

variable (s : State)

theorem kept_store : s.store = s.kept.core.settings.store := rfl
theorem kept_gallery : s.gallery.cfg = s.kept.core.settings.gallery := rfl
theorem kept_fixed : s.gallery.safetyFixed = s.kept.core.settings.fixed := rfl
theorem kept_station (i : StationId) : (s.station i).cfg = s.kept.core.settings.station i := rfl
theorem kept_line (i : LineId) : (s.line i).cfg = s.kept.core.settings.line i := rfl
theorem kept_axis (i : AxisId) : (s.axis i).cfg = s.kept.core.settings.axis i := rfl
theorem kept_zone (i : GroupId) : (s.group i).zone = s.kept.core.settings.zone i := rfl
theorem kept_supply : s.safety.supply.cfg = s.kept.core.settings.supply := rfl
theorem kept_braked (i : AxisId) : (s.axis i).braked = s.kept.brakes.braked i := rfl
theorem kept_groupState (i : GroupId) : (s.group i).state = s.kept.brakes.group i := rfl
theorem kept_brokenLines (i : GroupId) : (s.group i).brokenLines = s.kept.brakes.lines i := rfl
theorem kept_supplyState : s.safety.supply.state = s.kept.brakes.supply := rfl
theorem kept_raw (i : AxisId) : (s.bridge i).raw = (s.kept.core.counter i).raw := rfl
theorem kept_held (i : AxisId) : (s.bridge i).held = (s.kept.core.counter i).held := rfl
theorem kept_err (i : AxisId) : (s.bridge i).err = (s.kept.core.counter i).err := rfl

/-! ### The named updates -/

variable {s}

@[simp] theorem kept_setLine {i : LineId} {x : Line} (h : x.cfg = (s.line i).cfg) : (s.setLine i x).kept = s.kept := by
  have hl j : ((s.setLine i x).line j).cfg = (s.line j).cfg := by
    rw [State.setLine_line]; split <;> simp_all
  simp [State.kept, hl]

@[simp] theorem kept_setStation {i : StationId} {x : Station} (h : x.cfg = (s.station i).cfg) :
    (s.setStation i x).kept = s.kept := by
  have hl j : ((s.setStation i x).station j).cfg = (s.station j).cfg := by
    rw [State.setStation_station]; split <;> simp_all
  simp [State.kept, hl]

@[simp] theorem kept_setAxisQuiet {i : AxisId} {x : Axis} (h : x.cfg = (s.axis i).cfg) (hb : x.braked = (s.axis i).braked) :
    (s.setAxisQuiet i x).kept = s.kept := by
  have hl j : ((s.setAxisQuiet i x).axis j).cfg = (s.axis j).cfg := by
    rw [State.setAxisQuiet_axis]; split <;> simp_all
  have hm j : ((s.setAxisQuiet i x).axis j).braked = (s.axis j).braked := by
    rw [State.setAxisQuiet_axis]; split <;> simp_all
  simp [State.kept, hl, hm]

@[simp] theorem kept_setBridge {i : AxisId} {x : Bridge} (hr : x.raw = (s.bridge i).raw) (hh : x.held = (s.bridge i).held)
    (he : x.err = (s.bridge i).err) : (s.setBridge i x).kept = s.kept := by
  have h1 j : ((s.setBridge i x).bridge j).raw = (s.bridge j).raw := by
    rw [State.setBridge_bridge]; split <;> simp_all
  have h2 j : ((s.setBridge i x).bridge j).held = (s.bridge j).held := by
    rw [State.setBridge_bridge]; split <;> simp_all
  have h3 j : ((s.setBridge i x).bridge j).err = (s.bridge j).err := by
    rw [State.setBridge_bridge]; split <;> simp_all
  simp [State.kept, h1, h2, h3]

@[simp] theorem kept_setLamp {i : LampId} {x : LampState} : (s.setLamp i x).kept = s.kept := rfl
@[simp] theorem kept_setTone {i : ZoneId} {x : ToneOut} : (s.setTone i x).kept = s.kept := rfl
@[simp] theorem kept_setChime {x : Chime} : (s.setChime x).kept = s.kept := rfl
@[simp] theorem kept_setSlot {i : SlotId} {x : Option Alert} : (s.setSlot i x).kept = s.kept := rfl
@[simp] theorem kept_setAdmission {x : Admission} : (s.setAdmission x).kept = s.kept := rfl
@[simp] theorem kept_setWork {x : Work} : (s.setWork x).kept = s.kept := rfl

@[simp] theorem kept_setGallery {x : Gallery} (h : x.cfg = s.gallery.cfg) (hf : x.safetyFixed = s.gallery.safetyFixed) :
    (s.setGallery x).kept = s.kept := by simp [State.kept, h, hf]

@[simp] theorem kept_setAlerts {x : AlertUnit} (h : x.masks = s.alerts.masks) (hq : x.quiet = s.alerts.quiet) :
    State.kept { s with alerts := x } = s.kept := by
  simp only [State.kept, h, hq]
  rfl

@[simp] theorem kept_setPlayer {i : StationId} {p : Player} : (s.setPlayer i p).kept = s.kept := by
  simp [State.setPlayer]

@[simp] theorem kept_setAxis {i : AxisId} {x : Axis} (h : x.cfg = (s.axis i).cfg) (hb : x.braked = (s.axis i).braked) :
    (s.setAxis i x).kept = s.kept := by
  unfold State.setAxis
  split <;> simp [h, hb]

/-! ### Updates that keep the core -/

@[simp] theorem core_setAxisQuiet {i : AxisId} {x : Axis} (h : x.cfg = (s.axis i).cfg) :
    (s.setAxisQuiet i x).kept.core = s.kept.core := by
  have hl j : ((s.setAxisQuiet i x).axis j).cfg = (s.axis j).cfg := by
    rw [State.setAxisQuiet_axis]; split <;> simp_all
  simp [State.kept, hl]

@[simp] theorem core_setAxis {i : AxisId} {x : Axis} (h : x.cfg = (s.axis i).cfg) :
    (s.setAxis i x).kept.core = s.kept.core := by
  unfold State.setAxis
  split <;> simp [h]

@[simp] theorem core_setGroup {i : GroupId} {x : GuardGroup} (h : x.zone = (s.group i).zone) :
    (s.setGroup i x).kept.core = s.kept.core := by
  have hl j : ((s.setGroup i x).group j).zone = (s.group j).zone := by
    rw [State.setGroup_group]; split <;> simp_all
  simp [State.kept, hl]

@[simp] theorem core_setSupply {x : Supply} (h : x.cfg = s.safety.supply.cfg) : (s.setSupply x).kept.core = s.kept.core := by
  simp [State.kept, h]

@[simp] theorem core_setLink {x : LinkUnit} : (s.setLink x).kept.core = s.kept.core := rfl
@[simp] theorem brakes_setLink {x : LinkUnit} : (s.setLink x).kept.brakes = s.kept.brakes := rfl

@[simp] theorem link_setAxis {i : AxisId} {x : Axis} : (s.setAxis i x).kept.link = s.kept.link := by
  unfold State.setAxis; split <;> rfl
@[simp] theorem link_setGroup {i : GroupId} {x : GuardGroup} : (s.setGroup i x).kept.link = s.kept.link := rfl
@[simp] theorem link_setSupply {x : Supply} : (s.setSupply x).kept.link = s.kept.link := rfl

@[simp] theorem brakes_setBridge {i : AxisId} {x : Bridge} : (s.setBridge i x).kept.brakes = s.kept.brakes := rfl
@[simp] theorem link_setBridge {i : AxisId} {x : Bridge} : (s.setBridge i x).kept.link = s.kept.link := rfl

end Sys2Proof.Machine
end

