-- ==== Sys2Proof/Laws/KeptOps.lean ====
section
/-! SUPPORT. What each shared operation keeps of `State.kept`, from the notices up to the end of an event. -/

namespace Sys2Proof.Machine

open Sys2Proof

variable {s : State}

/-! ### Lists of effects and unordered deliveries -/

/-- A reading that each effect keeps is kept by the list of effects. -/
theorem same_forEach {α β : Type} (g : State → β) {l : List α} {f : α → State → State} (h : ∀ a t, g (f a t) = g t) :
    g (forEach l f s) = g s := by
  unfold forEach
  induction l generalizing s with
  | nil => rfl
  | cons a l ih => simp only [List.foldl_cons]; rw [ih, h]

theorem kept_forEach {α : Type} {l : List α} {f : α → State → State} (h : ∀ a t, (f a t).kept = t.kept) :
    (forEach l f s).kept = s.kept := same_forEach State.kept h

theorem kept_pickArb {k : Nat} : (pickArb k s).2.kept = s.kept := by
  unfold pickArb; split <;> rfl

theorem kept_arrange {α : Type} {n : Nat} {l : List α} : (arrange n l s).2.kept = s.kept := by
  induction n generalizing l s with
  | zero => rfl
  | succ n ih =>
    unfold arrange
    split
    · rfl
    · dsimp only
      split
      · exact kept_pickArb
      · dsimp only; rw [ih]; exact kept_pickArb

/-- A reading of what is kept that each of several unordered effects keeps is kept by all of them. -/
theorem same_forEachUnordered {α β : Type} (g : Kept → β) {l : List α} {f : α → State → State}
    (h : ∀ a t, g (f a t).kept = g t.kept) : g (forEachUnordered l f s).kept = g s.kept := by
  unfold forEachUnordered
  dsimp only
  rw [same_forEach (fun t => g t.kept) h, kept_arrange]

theorem kept_forEachUnordered {α : Type} {l : List α} {f : α → State → State} (h : ∀ a t, (f a t).kept = t.kept) :
    (forEachUnordered l f s).kept = s.kept := same_forEachUnordered (fun k => k) h

theorem same_bothOrders {β : Type} (g : Kept → β) {f f' : State → State} (hf : ∀ t, g (f t).kept = g t.kept)
    (hf' : ∀ t, g (f' t).kept = g t.kept) : g (bothOrders f f' s).kept = g s.kept := by
  unfold bothOrders; dsimp only; split <;> simp only [hf, hf', kept_pickArb]

theorem kept_bothOrders {f g : State → State} (hf : ∀ t, (f t).kept = t.kept) (hg : ∀ t, (g t).kept = t.kept) :
    (bothOrders f g s).kept = s.kept := same_bothOrders (fun k => k) hf hg

/-! ### Notices -/

@[simp] theorem kept_pushNotice {f : Frame} : (pushNotice f s).kept = s.kept := by
  unfold pushNotice
  split
  · rename_i h
    have h' : s.link.notices.length.ble s.link.noticeRoom = true := Nat.ble_eq_true_of_le (Nat.le_of_lt h)
    have h2 : (s.link.notices ++ [f]).length.ble s.link.noticeRoom = true :=
      Nat.ble_eq_true_of_le (by rw [List.length_append]; exact h)
    have h3 : ({ s.link with notices := s.link.notices ++ [f] } : LinkUnit).noticeRoom = s.link.noticeRoom := rfl
    simp only [State.kept, State.setLink_link, h', h2, h3]
    rfl
  · rfl
@[simp] theorem kept_sendNotice {c : NoticeClass} {ty : Byte} {p : List Byte} : (sendNotice c ty p s).kept = s.kept := by
  unfold sendNotice; split <;> simp

@[simp] theorem kept_noticeGalleryMode : (noticeGalleryMode s).kept = s.kept := by
  simp only [noticeGalleryMode] <;> (repeat' split) <;> simp
@[simp] theorem kept_noticeStation {i : StationId} : (noticeStation i s).kept = s.kept := by
  simp only [noticeStation] <;> (repeat' split) <;> simp
@[simp] theorem kept_noticeAxis {i : AxisId} : (noticeAxis i s).kept = s.kept := by
  simp only [noticeAxis] <;> (repeat' split) <;> simp
@[simp] theorem kept_noticeSupply {o : SupplyState} : (noticeSupply o s).kept = s.kept := by
  simp only [noticeSupply] <;> (repeat' split) <;> simp
@[simp] theorem kept_noticeLine {i : LineId} {e : LineEvent} {r : LineRole} {z : ZoneId} {t : Time} : (noticeLine i e r z t s).kept = s.kept := by
  simp only [noticeLine] <;> (repeat' split) <;> simp
@[simp] theorem kept_noticeGuard {g : GroupId} : (noticeGuard g s).kept = s.kept := by
  simp only [noticeGuard] <;> (repeat' split) <;> simp
@[simp] theorem kept_noticeAxes {v : AxisSet} : (noticeAxes v s).kept = s.kept := by
  exact kept_forEach fun a t => by simp
@[simp] theorem kept_flushAxes : (flushAxes s).kept = s.kept := by
  simp only [flushAxes] <;> (repeat' split) <;> simp

/-! ### Alerts, lamps and tones -/

@[simp] theorem kept_noticeAlert {c : AlertChange} {i : Option SlotId} {e : Alert} : (noticeAlert c i e s).kept = s.kept := by
  simp only [noticeAlert] <;> (repeat' split) <;> simp
@[simp] theorem kept_chimeTake : (chimeTake s).kept = s.kept := by
  simp only [chimeTake] <;> (repeat' split) <;> simp
@[simp] theorem kept_chimeSilence : (chimeSilence s).kept = s.kept := by
  simp only [chimeSilence] <;> (repeat' split) <;> simp
@[simp] theorem kept_playChime : (playChime s).kept = s.kept := by
  simp only [playChime] <;> (repeat' split) <;> simp
@[simp] theorem kept_judgeChime : (judgeChime s).kept = s.kept := by
  simp only [judgeChime] <;> (repeat' split) <;> simp
@[simp] theorem kept_makeEntryAt {i : SlotId} {k : AlertKind} {src : AlertSource} {z : ZoneSel} {v : Severity} : (makeEntryAt i k src z v s).kept = s.kept := by
  simp only [makeEntryAt] <;> (repeat' split) <;> simp
@[simp] theorem kept_mergeEntry {i : SlotId} {e : Alert} {z : ZoneSel} {v : Severity} : (mergeEntry i e z v s).kept = s.kept := by
  simp only [mergeEntry] <;> (repeat' split) <;> simp
@[simp] theorem kept_loseAlert {k : AlertKind} {src : AlertSource} {z : ZoneSel} {v : Severity} : (loseAlert k src z v s).kept = s.kept := by
  simp only [loseAlert] <;> (repeat' split) <;> simp
@[simp] theorem kept_raiseFull {k : AlertKind} {src : AlertSource} {z : ZoneSel} {v : Severity} : (raiseFull k src z v s).kept = s.kept := by
  simp only [raiseFull] <;> (repeat' split) <;> simp
@[simp] theorem kept_raiseAlert {k : AlertKind} {src : AlertSource} {z : ZoneSel} {v : Severity} : (raiseAlert k src z v s).kept = s.kept := by
  simp only [raiseAlert] <;> (repeat' split) <;> simp
@[simp] theorem kept_raiseAxis {k : AlertKind} {a : AxisId} : (raiseAxis k a s).kept = s.kept := by
  simp only [raiseAxis] <;> (repeat' split) <;> simp
@[simp] theorem kept_raiseStation {k : AlertKind} {st : StationId} : (raiseStation k st s).kept = s.kept := by
  simp only [raiseStation] <;> (repeat' split) <;> simp
@[simp] theorem kept_endAlert {k : AlertKind} {src : AlertSource} : (endAlert k src s).kept = s.kept := by
  simp only [endAlert] <;> (repeat' split) <;> simp
@[simp] theorem kept_ackSlot {i : SlotId} : (ackSlot i s).kept = s.kept := by
  simp only [ackSlot] <;> (repeat' split) <;> simp
@[simp] theorem kept_ackZone {z : ZoneId} : (ackZone z s).kept = s.kept := by
  exact kept_forEach fun i t => by (repeat' split) <;> simp
@[simp] theorem kept_ackAll : (ackAll s).kept = s.kept := by
  exact kept_forEach fun i t => kept_ackSlot
@[simp] theorem kept_escalate {i : SlotId} : (escalate i s).kept = s.kept := by
  simp only [escalate] <;> (repeat' split) <;> simp
@[simp] theorem kept_resetDeadlines : (resetDeadlines s).kept = s.kept := by
  exact kept_forEach fun i t => by split <;> simp
@[simp] theorem kept_setLampOpt {l : Option LampId} {v : LampState} : (setLampOpt l v s).kept = s.kept := by
  simp only [setLampOpt] <;> (repeat' split) <;> simp
@[simp] theorem kept_renderStation {st : StationId} : (renderStation st s).kept = s.kept := by
  simp only [renderStation] <;> (repeat' split) <;> simp
@[simp] theorem kept_lampsOff {l : List LampId} : (lampsOff l s).kept = s.kept := by
  exact kept_forEach fun i t => rfl
@[simp] theorem kept_applyPattern {st : StationId} {v w : Byte} : (applyPattern st v w s).kept = s.kept := by
  unfold applyPattern; rw [kept_lampsOff]; exact kept_forEach fun i t => rfl
@[simp] theorem kept_playTone {z : ZoneId} {p a d : Nat} : (playTone z p a d s).kept = s.kept := by
  simp only [playTone] <;> (repeat' split) <;> simp
@[simp] theorem kept_recomputeVolumes : (recomputeVolumes s).kept = s.kept := by
  exact kept_forEach fun z t => by simp only []; split <;> simp

/-! ### One axis record -/

@[simp] theorem Axis.eStop_cfg {x : Axis} {e : Int}: (x.eStop e).cfg = x.cfg := by
  simp only [Axis.eStop] <;> (repeat' split) <;> simp
@[simp] theorem Axis.eStop_braked {x : Axis} {e : Int}: (x.eStop e).braked = x.braked := by
  simp only [Axis.eStop] <;> (repeat' split) <;> simp
@[simp] theorem Axis.setTarget_cfg {x : Axis} {t : Int}: (x.setTarget t).cfg = x.cfg := by
  simp only [Axis.setTarget] <;> (repeat' split) <;> simp
@[simp] theorem Axis.setTarget_braked {x : Axis} {t : Int}: (x.setTarget t).braked = x.braked := by
  simp only [Axis.setTarget] <;> (repeat' split) <;> simp
@[simp] theorem Axis.requestStop_cfg {x : Axis} {r : StopReq}: (x.requestStop r).cfg = x.cfg := by
  simp only [Axis.requestStop] <;> (repeat' split) <;> simp
@[simp] theorem Axis.requestStop_braked {x : Axis} {r : StopReq}: (x.requestStop r).braked = x.braked := by
  simp only [Axis.requestStop] <;> (repeat' split) <;> simp
@[simp] theorem Axis.startSeek_cfg {x : Axis} : (x.startSeek).cfg = x.cfg := by
  simp only [Axis.startSeek] <;> (repeat' split) <;> simp
@[simp] theorem Axis.startSeek_braked {x : Axis} : (x.startSeek).braked = x.braked := by
  simp only [Axis.startSeek] <;> (repeat' split) <;> simp
@[simp] theorem Axis.startAway_cfg {x : Axis} : (x.startAway).cfg = x.cfg := by
  simp only [Axis.startAway] <;> (repeat' split) <;> simp
@[simp] theorem Axis.startAway_braked {x : Axis} : (x.startAway).braked = x.braked := by
  simp only [Axis.startAway] <;> (repeat' split) <;> simp
@[simp] theorem Axis.homingFail_cfg {x : Axis} : (x.homingFail).cfg = x.cfg := by
  simp only [Axis.homingFail] <;> (repeat' split) <;> simp
@[simp] theorem Axis.homingFail_braked {x : Axis} : (x.homingFail).braked = x.braked := by
  simp only [Axis.homingFail] <;> (repeat' split) <;> simp
@[simp] theorem Axis.homingGood_cfg {x : Axis} : (x.homingGood).cfg = x.cfg := by
  simp only [Axis.homingGood] <;> (repeat' split) <;> simp
@[simp] theorem Axis.homingGood_braked {x : Axis} : (x.homingGood).braked = x.braked := by
  simp only [Axis.homingGood] <;> (repeat' split) <;> simp
@[simp] theorem Axis.homingNone_cfg {x : Axis} : (x.homingNone).cfg = x.cfg := by
  simp only [Axis.homingNone] <;> (repeat' split) <;> simp
@[simp] theorem Axis.homingNone_braked {x : Axis} : (x.homingNone).braked = x.braked := by
  simp only [Axis.homingNone] <;> (repeat' split) <;> simp
@[simp] theorem Axis.homingStopEnd_cfg {x : Axis} : (x.homingStopEnd).cfg = x.cfg := by
  simp only [Axis.homingStopEnd] <;> (repeat' split) <;> simp
@[simp] theorem Axis.homingStopEnd_braked {x : Axis} : (x.homingStopEnd).braked = x.braked := by
  simp only [Axis.homingStopEnd] <;> (repeat' split) <;> simp
@[simp] theorem Axis.stopStep_cfg {x : Axis} : (x.stopStep.axis).cfg = x.cfg := by
  simp only [Axis.stopStep] <;> (repeat' split) <;> simp
@[simp] theorem Axis.stopStep_braked {x : Axis} : (x.stopStep.axis).braked = x.braked := by
  simp only [Axis.stopStep] <;> (repeat' split) <;> simp
@[simp] theorem Axis.reversalStep_cfg {x : Axis} : (x.reversalStep.axis).cfg = x.cfg := by
  simp only [Axis.reversalStep] <;> (repeat' split) <;> simp
@[simp] theorem Axis.reversalStep_braked {x : Axis} : (x.reversalStep.axis).braked = x.braked := by
  simp only [Axis.reversalStep] <;> (repeat' split) <;> simp
@[simp] theorem Axis.normalStep_cfg {x : Axis} {t : Int} {d : Nat}: ((x.normalStep t d).axis).cfg = x.cfg := by
  simp only [Axis.normalStep] <;> (repeat' split) <;> simp
@[simp] theorem Axis.normalStep_braked {x : Axis} {t : Int} {d : Nat}: ((x.normalStep t d).axis).braked = x.braked := by
  simp only [Axis.normalStep] <;> (repeat' split) <;> simp
@[simp] theorem Axis.profileStep_cfg {x : Axis} {d : Nat}: ((x.profileStep d).axis).cfg = x.cfg := by
  simp only [Axis.profileStep] <;> (repeat' split) <;> simp
@[simp] theorem Axis.profileStep_braked {x : Axis} {d : Nat}: ((x.profileStep d).axis).braked = x.braked := by
  simp only [Axis.profileStep] <;> (repeat' split) <;> simp
@[simp] theorem Axis.capture_cfg {x : Axis} {n : Int}: (x.capture n).cfg = x.cfg := by
  simp only [Axis.capture] <;> (repeat' split) <;> simp
@[simp] theorem Axis.capture_braked {x : Axis} {n : Int}: (x.capture n).braked = x.braked := by
  simp only [Axis.capture] <;> (repeat' split) <;> simp
@[simp] theorem Axis.settleStep_cfg {o : StepOut} : (Axis.settleStep o).cfg = o.axis.cfg := by
  simp only [Axis.settleStep] <;> (repeat' split) <;> simp
@[simp] theorem Axis.turn_cfg {x : Axis} {d : Nat} {e : Int} : (x.turn d e).axis.cfg = x.cfg := by
  simp only [Axis.turn] <;> (repeat' split) <;> simp
@[simp] theorem Axis.settleStep_braked {o : StepOut} : (Axis.settleStep o).braked = o.axis.braked := by
  simp only [Axis.settleStep] <;> (repeat' split) <;> simp
@[simp] theorem Axis.turn_braked {x : Axis} {d : Nat} {e : Int} : (x.turn d e).axis.braked = x.braked := by
  simp only [Axis.turn] <;> (repeat' split) <;> simp
@[simp] theorem Bridge.judge_raw {x : Axis} {b : Bridge} : (b.judge x).raw = b.raw := by
  simp only [Bridge.judge, Bridge.brakeNow] <;> (repeat' split) <;> rfl
@[simp] theorem Bridge.judge_held {x : Axis} {b : Bridge} : (b.judge x).held = b.held := by
  simp only [Bridge.judge, Bridge.brakeNow] <;> (repeat' split) <;> rfl
@[simp] theorem Bridge.judge_err {x : Axis} {b : Bridge} : (b.judge x).err = b.err := by
  simp only [Bridge.judge, Bridge.brakeNow] <;> (repeat' split) <;> rfl

/-! ### Stations -/

@[simp] theorem kept_judgeBridge {a : AxisId} : (judgeBridge a s).kept = s.kept := by
  simp only [judgeBridge] <;> (repeat' split) <;> simp
@[simp] theorem kept_changeState {st : StationId} {n : StState} {c : Option StopCause} : (changeState st n c s).kept = s.kept := by
  simp only [changeState] <;> (repeat' split) <;> simp
@[simp] theorem kept_removeEntry {st : StationId} : (removeEntry st s).kept = s.kept := by
  simp only [removeEntry] <;> (repeat' split) <;> simp
@[simp] theorem kept_clearWaits {st : StationId} : (clearWaits st s).kept = s.kept := by
  simp only [clearWaits] <;> (repeat' split) <;> simp
@[simp] theorem kept_enterHalted {st : StationId} : (enterHalted st s).kept = s.kept := by
  simp only [enterHalted] <;> (repeat' split) <;> simp
@[simp] theorem kept_enterOutOfService {st : StationId} : (enterOutOfService st s).kept = s.kept := by
  simp only [enterOutOfService] <;> (repeat' split) <;> simp
@[simp] theorem kept_startRest {st : StationId} : (startRest st s).kept = s.kept := by
  simp only [startRest] <;> (repeat' split) <;> simp
@[simp] theorem kept_enterReady {st : StationId} : (enterReady st s).kept = s.kept := by
  simp only [enterReady] <;> (repeat' split) <;> simp
@[simp] theorem kept_enterCooldown {st : StationId} : (enterCooldown st s).kept = s.kept := by
  simp only [enterCooldown] <;> (repeat' split) <;> simp
@[simp] theorem kept_releaseAxis {a : AxisId} : (releaseAxis a s).kept = s.kept := by
  simp only [releaseAxis] <;> (repeat' split) <;> simp
@[simp] theorem kept_markPass : (markPass s).kept = s.kept := by
  simp only [markPass] <;> (repeat' split) <;> simp
@[simp] theorem kept_markScan : (markScan s).kept = s.kept := by
  simp only [markScan] <;> (repeat' split) <;> simp
@[simp] theorem kept_releaseStation {st : StationId} : (releaseStation st s).kept = s.kept := by
  unfold releaseStation; simp [kept_forEach]
@[simp] theorem kept_stopAxis {r : StopReq} {a : AxisId} : (stopAxis r a s).kept = s.kept := by
  simp only [stopAxis] <;> (repeat' split) <;> simp
@[simp] theorem kept_endStopping {st : StationId} : (endStopping st s).kept = s.kept := by
  unfold endStopping; simp only []; rw [kept_noticeAxes]; (repeat' split) <;> simp
@[simp] theorem kept_tryEndStopping {st : StationId} : (tryEndStopping st s).kept = s.kept := by
  simp only [tryEndStopping] <;> (repeat' split) <;> simp
@[simp] theorem kept_abortStation {st : StationId} {c : StopCause} {v : AxisSet} : (abortStation st c v s).kept = s.kept := by
  simp only [abortStation] <;> (repeat' split) <;> simp [kept_forEach]
@[simp] theorem kept_haltStation {st : StationId} {v : AxisSet} : (haltStation v st s).kept = s.kept := by
  simp only [haltStation] <;> (repeat' split) <;> simp
@[simp] theorem kept_tellUnhealthy {a : AxisId} : (tellUnhealthy a s).kept = s.kept := by
  exact kept_forEach fun st t => by (repeat' split) <;> simp
@[simp] theorem kept_tellHealthy {a : AxisId} : (tellHealthy a s).kept = s.kept := by
  exact kept_forEach fun st t => by (repeat' split) <;> simp
@[simp] theorem kept_reportHealth {a : AxisId} {w : Bool} : (reportHealth a w s).kept = s.kept := by
  simp only [reportHealth] <;> (repeat' split) <;> simp
@[simp] theorem kept_rearmEvent {z : ZoneSel} : (rearmEvent z s).kept = s.kept := by
  exact kept_forEach fun st t => by simp only []; (repeat' split) <;> simp
@[simp] theorem kept_raiseTally {st : StationId} : (raiseTally st s).kept = s.kept := by
  simp only [raiseTally] <;> (repeat' split) <;> simp
@[simp] theorem kept_clearTally {st : StationId} : (clearTally st s).kept = s.kept := by
  simp only [clearTally] <;> (repeat' split) <;> simp
@[simp] theorem kept_countPress {st : StationId} : (countPress st s).kept = s.kept := by
  unfold countPress; simp only []; split <;> simp
@[simp] theorem kept_startFlash {st : StationId} : (startFlash st s).kept = s.kept := by
  simp only [startFlash] <;> (repeat' split) <;> simp

/-! ### The show player -/

@[simp] theorem kept_giveTarget {a : AxisId} {t : Int} : (giveTarget a t s).kept = s.kept := by
  simp only [giveTarget] <;> (repeat' split) <;> simp
@[simp] theorem kept_giveClampedTarget {a : AxisId} {t : Int} : (giveClampedTarget a t s).kept = s.kept := by
  unfold giveClampedTarget; simp only []; split <;> simp
@[simp] theorem kept_showFault {st : StationId} {f : ShowFault} : (showFault st f s).kept = s.kept := by
  unfold showFault; rw [kept_bothOrders] <;> simp
@[simp] theorem kept_endShow {st : StationId} : (endShow st s).kept = s.kept := by
  simp only [endShow] <;> (repeat' split) <;> simp
@[simp] theorem kept_waitForAxes {st : StationId} {v : AxisSet} {n : Nat} : (waitForAxes st v n s).1.kept = s.kept := by
  simp only [waitForAxes]; split <;> simp
@[simp] theorem kept_setOverride {a : AxisId} {n : Nat} : (setOverride a n s).kept = s.kept := by
  simp only [setOverride] <;> (repeat' split) <;> simp
@[simp] theorem kept_takeMove {st : StationId} {m : List (AxisId × Int)} {o : Nat} {r w : Bool} {n : Nat} : (takeMove st m o r w n s).1.kept = s.kept := by
  simp only [takeMove] <;> (repeat' split) <;> simp [kept_forEach]
@[simp] theorem kept_moveStep {st : StationId} {r : List Byte} {n : Nat} : (moveStep st r n s).1.kept = s.kept := by
  simp only [moveStep] <;> (repeat' split) <;> simp
@[simp] theorem kept_lampsStep {st : StationId} {r : List Byte} {n : Nat} : (lampsStep st r n s).1.kept = s.kept := by
  simp only [lampsStep] <;> (repeat' split) <;> simp
@[simp] theorem kept_toneStep {st : StationId} {r : List Byte} {n : Nat} : (toneStep st r n s).1.kept = s.kept := by
  simp only [toneStep] <;> (repeat' split) <;> simp
@[simp] theorem kept_loopStep {st : StationId} {n : Nat} : (loopStep st n s).1.kept = s.kept := by
  simp only [loopStep] <;> (repeat' split) <;> simp
@[simp] theorem kept_takeStep {st : StationId} : (takeStep st s).1.kept = s.kept := by
  simp only [takeStep] <;> (repeat' split) <;> simp
@[simp] theorem kept_takeSteps {n : Nat} {st : StationId} : (takeSteps n st s).kept = s.kept := by
  induction n generalizing s with
  | zero => rfl
  | succ n ih =>
    have h := kept_takeStep (s := s) (st := st)
    unfold takeSteps
    split
    · simp_all
    · split <;> simp_all
@[simp] theorem kept_completeWait {st : StationId} : (completeWait st s).kept = s.kept := by
  unfold completeWait; simp only []; split <;> simp
@[simp] theorem kept_startPlayer {st : StationId} : (startPlayer st s).kept = s.kept := by
  simp only [startPlayer] <;> (repeat' split) <;> simp
@[simp] theorem kept_judgeWait {st : StationId} : (judgeWait st s).kept = s.kept := by
  simp only [judgeWait] <;> (repeat' split) <;> simp
@[simp] theorem kept_stationRest {st : StationId} {a : AxisId} : (stationRest st a s).kept = s.kept := by
  simp only [stationRest] <;> (repeat' split) <;> simp
@[simp] theorem kept_holdPlayer {st : StationId} : (holdPlayer st s).kept = s.kept := by
  unfold holdPlayer; simp only []; rw [kept_forEach] <;> simp
@[simp] theorem kept_resumeAxis {a : AxisId} : (resumeAxis a s).kept = s.kept := by
  simp only [resumeAxis] <;> (repeat' split) <;> simp
@[simp] theorem kept_resumePlayer {st : StationId} : (resumePlayer st s).kept = s.kept := by
  simp only [resumePlayer] <;> (repeat' split) <;> simp
@[simp] theorem kept_crossTriggers {a : AxisId} : (crossTriggers a s).kept = s.kept := by
  exact kept_forEach fun st t => by simp only []; (repeat' split) <;> simp

/-! ### The admission unit and the rest of an event -/

theorem kept_makeEntry {st : StationId} {src : Source} {t : State} (h : makeEntry st src s = some t) : t.kept = s.kept := by
  unfold makeEntry at h; split at h
  · cases h; simp
  · cases h
@[simp] theorem kept_mapEntry {st : StationId} {f : Entry → Entry} : (mapEntry st f s).kept = s.kept := by
  simp only [mapEntry] <;> (repeat' split) <;> simp
@[simp] theorem kept_grantAxis {o : Owner} {a : AxisId} : (grantAxis o a s).kept = s.kept := by
  simp only [grantAxis] <;> (repeat' split) <;> simp
@[simp] theorem kept_admitEntry {st : StationId} : (admitEntry st s).kept = s.kept := by
  unfold admitEntry; simp [kept_forEach]
@[simp] theorem kept_passOver {l : List Entry} : (passOver l s).kept = s.kept := by
  induction l generalizing s with
  | nil => rfl
  | cons e l ih => unfold passOver; (repeat' split) <;> simp [ih]
@[simp] theorem kept_admissionPass : (admissionPass s).kept = s.kept := by
  simp only [admissionPass] <;> (repeat' split) <;> simp
@[simp] theorem kept_endClaim {a : AxisId} : (endClaim a s).kept = s.kept := by
  simp only [endClaim] <;> (repeat' split) <;> simp
@[simp] theorem kept_reportRest {a : AxisId} : (reportRest a s).kept = s.kept := by
  simp only [reportRest] <;> (repeat' split) <;> simp
@[simp] theorem kept_leaveWaiting {a : AxisId} : (leaveWaiting a s).kept = s.kept := by
  simp only [leaveWaiting] <;> (repeat' split) <;> simp
@[simp] theorem kept_beginHoming {a : AxisId} : (beginHoming a s).kept = s.kept := by
  unfold beginHoming; simp only []; split <;> simp
@[simp] theorem kept_beginPark {a : AxisId} : (beginPark a s).kept = s.kept := by
  simp only [beginPark] <;> (repeat' split) <;> simp
@[simp] theorem kept_scanSequence : (scanSequence s).kept = s.kept := by
  exact kept_forEach fun a t => by simp only []; (repeat' split) <;> simp
@[simp] theorem kept_runRounds {n : Nat} : (runRounds n s).kept = s.kept := by
  induction n generalizing s with
  | zero => rfl
  | succ n ih => unfold runRounds; (repeat' split) <;> simp [ih]
@[simp] theorem kept_runDue : (runDue s).kept = s.kept := kept_runRounds
@[simp] theorem kept_setMode {m : Mode} : (setMode m s).kept = s.kept := by
  simp only [setMode] <;> (repeat' split) <;> simp
@[simp] theorem kept_judgeStandby {st : StationId} : (judgeStandby st s).kept = s.kept := by
  simp only [judgeStandby] <;> (repeat' split) <;> simp
@[simp] theorem kept_endOpening : (endOpening s).kept = s.kept := by
  unfold endOpening; simp [kept_forEach]
@[simp] theorem kept_beginParking : (beginParking s).kept = s.kept := by
  simp only [beginParking] <;> (repeat' split) <;> simp
@[simp] theorem kept_standDown {st : StationId} : (standDown st s).kept = s.kept := by
  unfold standDown; simp only []; split <;> simp [kept_station]
@[simp] theorem kept_enterClosed : (enterClosed s).kept = s.kept := by
  unfold enterClosed; simp [kept_forEach]
@[simp] theorem kept_settle {n : Nat} : (settle n s).kept = s.kept := by
  induction n generalizing s with
  | zero => unfold settle; simp
  | succ n ih => unfold settle; simp only []; (repeat' split) <;> simp [ih]
@[simp] theorem kept_endEvent : (endEvent s).kept = s.kept := by
  simp only [endEvent] <;> (repeat' split) <;> simp
@[simp] theorem kept_tellOwnerFault {a : AxisId} : (tellOwnerFault a s).kept = s.kept := by
  simp only [tellOwnerFault] <;> (repeat' split) <;> simp
theorem kept_faultAxis {a : AxisId} {k : FaultKind} {f : State → State} (h : ∀ t, (f t).kept = t.kept) :
    (faultAxis a k f s).kept = s.kept := by
  simp only [faultAxis] <;> (repeat' split) <;> simp [h]
@[simp] theorem kept_jamAxis {a : AxisId} : (jamAxis a s).kept = s.kept := by
  exact kept_faultAxis fun t => kept_raiseAxis
@[simp] theorem kept_failEncoder {a : AxisId} : (failEncoder a s).kept = s.kept := by
  exact kept_bothOrders (fun t => kept_faultAxis fun _ => rfl) fun t => kept_raiseAxis

end Sys2Proof.Machine
end

