-- ==== Sys2Proof/Laws/KeptEvents.lean ====
section
/-! SUPPORT. What the events keep of `State.kept`: the guard groups, the supply monitor, the input lines, motion, lamps and
sound, and the operations of the link on its own state. -/

namespace Sys2Proof.Machine

open Sys2Proof

variable {s : State}

/-! ### Guard groups and the supply monitor -/

@[simp] theorem kept_haltStations {v : AxisSet} {p : StationId → Bool} : (haltStations v p s).kept = s.kept := by
  unfold haltStations; simp [kept_forEach]
@[simp] theorem kept_leaveWaitingAll {v : AxisSet} : (leaveWaitingAll v s).kept = s.kept :=
  kept_forEach fun _ _ => kept_leaveWaiting
@[simp] theorem Axis.brake_cfg {x : Axis} {e : Int} : (x.brake e).cfg = x.cfg := by
  simp only [Axis.brake] <;> (repeat' split) <;> simp
@[simp] theorem core_brakeAxis {a : AxisId} : (brakeAxis a s).kept.core = s.kept.core := by
  simp only [brakeAxis, kept_runDue, kept_reportRest] <;> (repeat' split) <;> simp
@[simp] theorem link_brakeAxis {a : AxisId} : (brakeAxis a s).kept.link = s.kept.link := by
  simp only [brakeAxis, kept_runDue, kept_reportRest] <;> (repeat' split) <;> simp
@[simp] theorem core_freeAxis {a : AxisId} : (freeAxis a s).kept.core = s.kept.core := by
  simp only [freeAxis] <;> (repeat' split) <;> simp
@[simp] theorem link_freeAxis {a : AxisId} : (freeAxis a s).kept.link = s.kept.link := by
  simp only [freeAxis] <;> (repeat' split) <;> simp
@[simp] theorem core_judgeBraked {a : AxisId} : (judgeBraked a s).kept.core = s.kept.core := by
  simp only [judgeBraked] <;> (repeat' split) <;> simp
@[simp] theorem link_judgeBraked {a : AxisId} : (judgeBraked a s).kept.link = s.kept.link := by
  simp only [judgeBraked] <;> (repeat' split) <;> simp
@[simp] theorem core_judgeGroups {p : GroupId → Bool} : (judgeGroups p s).kept.core = s.kept.core := by
  exact same_forEach (fun t => t.kept.core) fun a t => by split <;> simp
@[simp] theorem link_judgeGroups {p : GroupId → Bool} : (judgeGroups p s).kept.link = s.kept.link := by
  exact same_forEach (fun t => t.kept.link) fun a t => by split <;> simp
@[simp] theorem core_breakLine {g : GroupId} {l : LineId} : (breakLine g l s).kept.core = s.kept.core := by
  simp only [breakLine, kept_raiseAlert, core_judgeGroups, kept_leaveWaitingAll, kept_haltStations]
  split <;> simp
@[simp] theorem link_breakLine {g : GroupId} {l : LineId} : (breakLine g l s).kept.link = s.kept.link := by
  simp only [breakLine, kept_raiseAlert, link_judgeGroups, kept_leaveWaitingAll, kept_haltStations]
  split <;> simp
@[simp] theorem core_restoreLine {g : GroupId} {l : LineId} : (restoreLine g l s).kept.core = s.kept.core := by
  simp only [restoreLine] <;> (repeat' split) <;> simp
@[simp] theorem link_restoreLine {g : GroupId} {l : LineId} : (restoreLine g l s).kept.link = s.kept.link := by
  simp only [restoreLine] <;> (repeat' split) <;> simp
@[simp] theorem core_armZone {z : ZoneSel} : (armZone z s).kept.core = s.kept.core := by
  simp only [armZone, kept_rearmEvent, core_judgeGroups]
  exact same_forEach (fun t => t.kept.core) fun g t => by simp
@[simp] theorem link_armZone {z : ZoneSel} : (armZone z s).kept.link = s.kept.link := by
  simp only [armZone, kept_rearmEvent, link_judgeGroups]
  exact same_forEach (fun t => t.kept.link) fun g t => by simp
@[simp] theorem core_keyTurn {z : ZoneId} : (keyTurn z s).kept.core = s.kept.core := by
  exact same_bothOrders Kept.core (fun t => by simp) fun t => by simp
@[simp] theorem link_keyTurn {z : ZoneId} : (keyTurn z s).kept.link = s.kept.link := by
  exact same_bothOrders Kept.link (fun t => by simp) fun t => by simp
@[simp] theorem link_setSupplyState {u : Supply} : (setSupplyState u s).kept.link = s.kept.link := by
  simp only [setSupplyState] <;> (repeat' split) <;> simp
@[simp] theorem core_setSupplyState {u : Supply} (h : u.cfg = s.safety.supply.cfg) :
    (setSupplyState u s).kept.core = s.kept.core := by simp [setSupplyState, h]
@[simp] theorem kept_setDerate {d : Nat} : (setDerate d s).kept = s.kept := by
  rfl
@[simp] theorem kept_setHold {b : Bool} : (setHold b s).kept = s.kept := by
  rfl
@[simp] theorem core_enterLow : (enterLow s).kept.core = s.kept.core := by
  simp only [enterLow] <;> (repeat' split) <;> simp
@[simp] theorem link_enterLow : (enterLow s).kept.link = s.kept.link := by
  simp only [enterLow] <;> (repeat' split) <;> simp
@[simp] theorem core_leaveLow : (leaveLow s).kept.core = s.kept.core := by
  simp only [leaveLow] <;> (repeat' split) <;> simp
@[simp] theorem link_leaveLow : (leaveLow s).kept.link = s.kept.link := by
  simp only [leaveLow] <;> (repeat' split) <;> simp
@[simp] theorem core_enterTripped : (enterTripped s).kept.core = s.kept.core := by
  simp only [enterTripped, kept_raiseAlert, core_judgeGroups, kept_leaveWaitingAll, kept_haltStations]
  split <;> simp
@[simp] theorem link_enterTripped : (enterTripped s).kept.link = s.kept.link := by
  simp only [enterTripped, kept_raiseAlert, link_judgeGroups, kept_leaveWaitingAll, kept_haltStations]
  split <;> simp
@[simp] theorem core_supplyRecovered : (supplyRecovered s).kept.core = s.kept.core := by
  simp only [supplyRecovered] <;> (repeat' split) <;> simp
@[simp] theorem link_supplyRecovered : (supplyRecovered s).kept.link = s.kept.link := by
  simp only [supplyRecovered] <;> (repeat' split) <;> simp
@[simp] theorem core_warnConfirm : (warnConfirm s).kept.core = s.kept.core := by
  simp only [warnConfirm] <;> (repeat' split) <;> simp
@[simp] theorem link_warnConfirm : (warnConfirm s).kept.link = s.kept.link := by
  simp only [warnConfirm] <;> (repeat' split) <;> simp
@[simp] theorem core_tripConfirm : (tripConfirm s).kept.core = s.kept.core := by
  simp only [tripConfirm] <;> (repeat' split) <;> simp
@[simp] theorem link_tripConfirm : (tripConfirm s).kept.link = s.kept.link := by
  simp only [tripConfirm] <;> (repeat' split) <;> simp
@[simp] theorem core_supplySample {v : Nat} : (supplySample v s).kept.core = s.kept.core := by
  simp only [supplySample] <;> (repeat' split) <;> simp [Supply.count, kept_supply]
@[simp] theorem link_supplySample {v : Nat} : (supplySample v s).kept.link = s.kept.link := by
  simp only [supplySample] <;> (repeat' split) <;> simp [Supply.count, kept_supply]
@[simp] theorem core_recoveryExpiry : (recoveryExpiry s).kept.core = s.kept.core := by
  simp only [recoveryExpiry] <;> (repeat' split) <;> simp
@[simp] theorem link_recoveryExpiry : (recoveryExpiry s).kept.link = s.kept.link := by
  simp only [recoveryExpiry] <;> (repeat' split) <;> simp

/-! ### Input lines -/

@[simp] theorem kept_pressReady {st : StationId} : (pressReady st s).kept = s.kept := by
  simp only [pressReady]
  split
  · simp
  · split
    · rename_i h; rw [kept_makeEntry h]; simp
    · simp
@[simp] theorem kept_visitorPress {st : StationId} : (visitorPress st s).kept = s.kept := by
  simp only [visitorPress] <;> (repeat' split) <;> simp
@[simp] theorem kept_noticeLineEvent {l : LineId} {e : LineEvent} : (noticeLineEvent l e s).kept = s.kept := by
  simp only [noticeLineEvent] <;> (repeat' split) <;> simp
@[simp] theorem core_linePress {l : LineId} : (linePress l s).kept.core = s.kept.core := by
  simp only [linePress] <;> (repeat' split) <;> simp [Line.press]
@[simp] theorem link_linePress {l : LineId} : (linePress l s).kept.link = s.kept.link := by
  simp only [linePress] <;> (repeat' split) <;> simp [Line.press]
@[simp] theorem kept_unstick {l : LineId} {b : Bool} : (unstick l b s).kept = s.kept := by
  simp only [unstick] <;> (repeat' split) <;> simp
@[simp] theorem core_lineRelease {l : LineId} : (lineRelease l s).kept.core = s.kept.core := by
  simp only [lineRelease] <;> (repeat' split) <;> simp [Line.release]
@[simp] theorem link_lineRelease {l : LineId} : (lineRelease l s).kept.link = s.kept.link := by
  simp only [lineRelease] <;> (repeat' split) <;> simp [Line.release]
@[simp] theorem core_lineDebounced {l : LineId} : (lineDebounced l s).kept.core = s.kept.core := by
  simp only [lineDebounced] <;> (repeat' split) <;> simp
@[simp] theorem link_lineDebounced {l : LineId} : (lineDebounced l s).kept.link = s.kept.link := by
  simp only [lineDebounced] <;> (repeat' split) <;> simp
@[simp] theorem kept_homeEdge {a : AxisId} {b : Bool} {n : Int} : (homeEdge a b n s).kept = s.kept := by
  simp only [homeEdge] <;> (repeat' split) <;> simp
@[simp] theorem core_deliverSample {e : SampleEvent} : (deliverSample e s).kept.core = s.kept.core := by
  cases e <;> simp [deliverSample]
@[simp] theorem link_deliverSample {e : SampleEvent} : (deliverSample e s).kept.link = s.kept.link := by
  cases e <;> simp [deliverSample]
@[simp] theorem upToLast_nil {α : Type} {p : α → Bool} : upToLast p [] = [] := rfl
theorem mem_of_mem_upToLast {α : Type} {p : α → Bool} {x : α} {l : List α} (h : x ∈ upToLast p l) : x ∈ l := by
  induction l with
  | nil => exact h
  | cons y l ih =>
    unfold upToLast at h
    split at h
    · rcases List.mem_cons.mp h with rfl | h
      · exact List.mem_cons_self
      · exact List.mem_cons_of_mem _ (ih h)
    · cases h
/-- A sample without break and home edge delivers nothing: its changes of level wait for their LINE_DEBOUNCED. -/
@[simp] theorem deliverMoment_nil : deliverMoment [] s = s := rfl
/-- A reading of what is kept that each event of a sample keeps is kept by all that a sample delivers. -/
theorem same_deliverMoment {β : Type} (g : Kept → β) {l : List SampleEvent}
    (h : ∀ e t, g (deliverSample e t).kept = g t.kept) : g (deliverMoment l s).kept = g s.kept := by
  unfold deliverMoment
  split
  · rfl
  · dsimp only
    rw [same_forEach (fun t => g t.kept) h, kept_arrange]
@[simp] theorem Line.sample_cfg {x : Line} {b : Bool} {t : Time} : (x.sample b t).cfg = x.cfg := by
  simp only [Line.sample] <;> (repeat' split) <;> rfl
@[simp] theorem kept_stuckExpiry {l : LineId} : (stuckExpiry l s).kept = s.kept := by
  simp only [stuckExpiry] <;> (repeat' split) <;> simp

/-! ### Motion -/

@[simp] theorem kept_writeTurn {a : AxisId} : (writeTurn a s).kept = s.kept := by
  unfold writeTurn; dsimp only
  split
  · rw [kept_setBridge, kept_setAxisQuiet] <;> simp
  · simp
@[simp] theorem kept_reportTurn {a : AxisId} {x : Axis} {u : AxisTurn} : (reportTurn a x u s).kept = s.kept := by
  simp only [reportTurn] <;> (repeat' split) <;> simp
@[simp] theorem kept_profileAll : (profileAll s).kept = s.kept := by
  simp only [profileAll]
  rw [kept_forEachUnordered fun m t => by simp]
  exact kept_forEach fun a t => by simp
@[simp] theorem kept_followingJam {a : AxisId} : (followingJam a s).kept = s.kept := by
  simp only [followingJam] <;> (repeat' split) <;> simp
@[simp] theorem kept_profileInterval : (profileInterval s).kept = s.kept := by
  simp only [profileInterval, kept_profileAll]
  exact kept_forEachUnordered fun a t => by simp

/-! ### Timers, lamps and sound -/

@[simp] theorem kept_tallyLeak {st : StationId} : (tallyLeak st s).kept = s.kept := by
  simp only [tallyLeak] <;> (repeat' split) <;> simp
@[simp] theorem kept_flashExpiry {st : StationId} : (flashExpiry st s).kept = s.kept := by
  simp only [flashExpiry] <;> (repeat' split) <;> simp
@[simp] theorem kept_cooldownExpiry {st : StationId} : (cooldownExpiry st s).kept = s.kept := by
  simp only [cooldownExpiry] <;> (repeat' split) <;> simp
@[simp] theorem kept_restExpiry {st : StationId} : (restExpiry st s).kept = s.kept := by
  simp only [restExpiry] <;> (repeat' split) <;> simp
@[simp] theorem kept_becomeSenior {st : StationId} : (becomeSenior st s).kept = s.kept := by
  simp only [becomeSenior] <;> (repeat' split) <;> simp
@[simp] theorem kept_waitExpiry {st : StationId} : (waitExpiry st s).kept = s.kept := by
  simp only [waitExpiry] <;> (repeat' split) <;> simp
@[simp] theorem kept_chimeRepeat : (chimeRepeat s).kept = s.kept := by
  simp only [chimeRepeat] <;> (repeat' split) <;> simp
@[simp] theorem kept_chimeNoteEnd : (chimeNoteEnd s).kept = s.kept := by
  simp only [chimeNoteEnd] <;> (repeat' split) <;> simp
@[simp] theorem kept_toneEnd {z : ZoneId} : (toneEnd z s).kept = s.kept := by
  simp only [toneEnd] <;> (repeat' split) <;> simp
@[simp] theorem kept_waveHalf {o : SoundOut} : (waveHalf o s).kept = s.kept := by
  cases o <;> simp [waveHalf]

/-! ### The link on its own state -/

@[simp] theorem core_interruption : (interruption s).kept.core = s.kept.core := by
  simp only [interruption] <;> (repeat' split) <;> simp
@[simp] theorem brakes_interruption : (interruption s).kept.brakes = s.kept.brakes := by
  simp only [interruption] <;> (repeat' split) <;> simp
@[simp] theorem core_restartGap : (restartGap s).kept.core = s.kept.core := by
  simp only [restartGap] <;> (repeat' split) <;> simp
@[simp] theorem brakes_restartGap : (restartGap s).kept.brakes = s.kept.brakes := by
  simp only [restartGap] <;> (repeat' split) <;> simp
@[simp] theorem core_gapExpiry : (gapExpiry s).kept.core = s.kept.core := by
  simp only [gapExpiry] <;> (repeat' split) <;> simp
@[simp] theorem brakes_gapExpiry : (gapExpiry s).kept.brakes = s.kept.brakes := by
  simp only [gapExpiry] <;> (repeat' split) <;> simp
@[simp] theorem core_chooseTx : (chooseTx s).kept.core = s.kept.core := by
  simp only [chooseTx] <;> (repeat' split) <;> simp
@[simp] theorem brakes_chooseTx : (chooseTx s).kept.brakes = s.kept.brakes := by
  simp only [chooseTx] <;> (repeat' split) <;> simp
@[simp] theorem core_kickTx : (kickTx s).kept.core = s.kept.core := by
  simp only [kickTx] <;> (repeat' split) <;> simp
@[simp] theorem brakes_kickTx : (kickTx s).kept.brakes = s.kept.brakes := by
  simp only [kickTx] <;> (repeat' split) <;> simp
@[simp] theorem core_sendStarted : (sendStarted s).kept.core = s.kept.core := by
  simp only [sendStarted] <;> (repeat' split) <;> simp
@[simp] theorem brakes_sendStarted : (sendStarted s).kept.brakes = s.kept.brakes := by
  simp only [sendStarted] <;> (repeat' split) <;> simp

end Sys2Proof.Machine
end

