-- ==== Sys2Proof/Laws/KeptRequests.lean ====
section
/-! SUPPORT. What the answers to requests keep of `State.kept`, and what the configuration requests and the few others that
write a setting make of it. -/

namespace Sys2Proof.Machine

open Sys2Proof

variable {s : State} {p : List Byte}

/-! ### Answers -/

@[simp] theorem refuse_state {x : Status} : (refuse x s).state = s := rfl
@[simp] theorem accept_state : (accept s).state = s := rfl
@[simp] theorem report_state {d : List Byte} : (report d s).state = s := rfl

/-- A reading that a test's accepted branch keeps is kept by the test. -/
theorem same_lengthIs {β : Type} (g : State → β) {n : Nat} {k : Ans} (h : g k.state = g s) :
    g (lengthIs n p k s).state = g s := by unfold lengthIs; split <;> simp [h]

theorem same_inClosed {β : Type} (g : State → β) {k : Ans} (h : g k.state = g s) : g (inClosed s k).state = g s := by
  unfold inClosed; split <;> simp [h]

@[simp] theorem kept_answerIdent : (answerIdent p s).state.kept = s.kept := by
  simp only [answerIdent, lengthIs] <;> (repeat' split) <;> simp
@[simp] theorem kept_answerUnknown : (answerUnknown s).state.kept = s.kept := rfl
@[simp] theorem kept_answerStatus : (answerStatus p s).state.kept = s.kept := by
  simp only [answerStatus, lengthIs] <;> split <;> rfl
@[simp] theorem core_answerReset : (answerReset p s).state.kept.core = s.kept.core := by
  simp only [answerReset, lengthIs] <;> (repeat' split) <;> simp
@[simp] theorem brakes_answerReset : (answerReset p s).state.kept.brakes = s.kept.brakes := by
  simp only [answerReset, lengthIs] <;> (repeat' split) <;> simp
@[simp] theorem kept_answerSetLink : (answerSetLink p s).state.kept = s.kept := by
  simp only [answerSetLink, lengthIs] <;> (repeat' split) <;> simp
@[simp] theorem core_answerNoticeEnable : (answerNoticeEnable p s).state.kept.core = s.kept.core := by
  simp only [answerNoticeEnable, lengthIs] <;> (repeat' split) <;> simp
@[simp] theorem brakes_answerNoticeEnable : (answerNoticeEnable p s).state.kept.brakes = s.kept.brakes := by
  simp only [answerNoticeEnable, lengthIs] <;> (repeat' split) <;> simp
@[simp] theorem kept_answerStepRead : (answerStepRead p s).state.kept = s.kept := by
  simp only [answerStepRead, lengthIs] <;> (repeat' split) <;> simp
@[simp] theorem kept_answerClose : (answerClose p s).state.kept = s.kept := by
  simp only [answerClose, lengthIs, closeFromOpen, closeFromOpening] <;> (repeat' split) <;> simp
  · rw [kept_forEach fun st t => by split <;> simp, kept_forEach fun st t => by split <;> simp]
    simp
  · rw [kept_forEach fun st t => by split <;> simp]
    simp
@[simp] theorem kept_answerPlay : (answerPlay p s).state.kept = s.kept := by
  simp only [answerPlay, lengthIs, playStation] <;> (repeat' split) <;> simp <;> rw [kept_makeEntry ‹_›] <;> simp
@[simp] theorem kept_answerCancel : (answerCancel p s).state.kept = s.kept := by
  simp only [answerCancel, lengthIs] <;> (repeat' split) <;> simp
@[simp] theorem kept_answerHold : (answerHold p s).state.kept = s.kept := by
  simp only [answerHold, lengthIs] <;> (repeat' split) <;> simp
@[simp] theorem kept_releaseHold {st : StationId} : (releaseHold st s).kept = s.kept := by
  simp only [releaseHold, kept_resumePlayer, kept_changeState]; rw [kept_forEach fun a t => by simp]; simp
@[simp] theorem kept_answerRelease : (answerRelease p s).state.kept = s.kept := by
  simp only [answerRelease, lengthIs] <;> (repeat' split) <;> simp
@[simp] theorem kept_answerStop : (answerStop p s).state.kept = s.kept := by
  simp only [answerStop, lengthIs] <;> (repeat' split) <;> simp
@[simp] theorem core_answerRearm : (answerRearm p s).state.kept.core = s.kept.core := by
  simp only [answerRearm, lengthIs] <;> (repeat' split) <;> simp
@[simp] theorem link_answerRearm : (answerRearm p s).state.kept.link = s.kept.link := by
  simp only [answerRearm, lengthIs] <;> (repeat' split) <;> simp
@[simp] theorem kept_beginMove {a : AxisId} {v : Int} {r : Bool} : (beginMove a v r s).kept = s.kept := by
  simp only [beginMove]; (repeat' split) <;> simp
@[simp] theorem kept_answerAxisMove : (answerAxisMove p s).state.kept = s.kept := by
  simp only [answerAxisMove, lengthIs, inClosed] <;> (repeat' split) <;> simp
@[simp] theorem kept_answerAxisHome : (answerAxisHome p s).state.kept = s.kept := by
  simp only [answerAxisHome, lengthIs, inClosed] <;> (repeat' split) <;> simp
@[simp] theorem Axis.placeAtZero_cfg {x : Axis} {r : Int} : (x.placeAtZero r).cfg = x.cfg := rfl
@[simp] theorem Axis.placeAtZero_braked {x : Axis} {r : Int} : (x.placeAtZero r).braked = x.braked := rfl
@[simp] theorem Axis.cleared_cfg {x : Axis} {b : Bool} {r : Int} : (x.cleared b r).cfg = x.cfg := by
  simp only [Axis.cleared] <;> (repeat' split) <;> simp
@[simp] theorem Axis.cleared_braked {x : Axis} {b : Bool} {r : Int} : (x.cleared b r).braked = x.braked := by
  simp only [Axis.cleared] <;> (repeat' split) <;> simp
@[simp] theorem kept_endFaultAlerts {a : AxisId} : (endFaultAlerts a s).kept = s.kept := by simp [endFaultAlerts]

/-! ### The encoder error count cleared -/

/-- The counters with one error count set to 0. -/
def Core.clearErr (a : AxisId) (c : Core) : Core :=
  { c with counter := fun i => if a = i then { c.counter i with err := 0 } else c.counter i }

@[simp] theorem Core.clearErr_settings {a : AxisId} {c : Core} : (c.clearErr a).settings = c.settings := rfl

theorem core_setErr {a : AxisId} : (s.setBridge a { s.bridge a with err := 0 }).kept.core = s.kept.core.clearErr a := by
  simp only [State.kept, Core.clearErr, Core.mk.injEq, State.setBridge_bridge]
  refine ⟨rfl, ?_, rfl, rfl, rfl, rfl, rfl⟩
  funext i
  split
  · subst_vars; rfl
  · rfl

@[simp] theorem core_clearEncoderErrors {a : AxisId} : (clearEncoderErrors a s).kept.core = s.kept.core.clearErr a := by
  simp only [clearEncoderErrors]; split <;> simp [core_setErr]
@[simp] theorem brakes_clearEncoderErrors {a : AxisId} : (clearEncoderErrors a s).kept.brakes = s.kept.brakes := by
  simp only [clearEncoderErrors]; split <;> simp
@[simp] theorem link_clearEncoderErrors {a : AxisId} : (clearEncoderErrors a s).kept.link = s.kept.link := by
  simp only [clearEncoderErrors]; split <;> simp

@[simp] theorem core_clearAxis {a : AxisId} : (clearAxis a s).kept.core = s.kept.core.clearErr a := by
  simp only [clearAxis]; split <;> simp
@[simp] theorem brakes_clearAxis {a : AxisId} : (clearAxis a s).kept.brakes = s.kept.brakes := by
  simp only [clearAxis]; split <;> simp
@[simp] theorem link_clearAxis {a : AxisId} : (clearAxis a s).kept.link = s.kept.link := by
  simp only [clearAxis]; split <;> simp

@[simp] theorem brakes_answerAxisClear : (answerAxisClear p s).state.kept.brakes = s.kept.brakes := by
  simp only [answerAxisClear, lengthIs] <;> (repeat' split) <;> simp
@[simp] theorem link_answerAxisClear : (answerAxisClear p s).state.kept.link = s.kept.link := by
  simp only [answerAxisClear, lengthIs] <;> (repeat' split) <;> simp
theorem core_answerAxisClear : (answerAxisClear p s).state.kept.core = s.kept.core
    ∨ ∃ a, (answerAxisClear p s).state.kept.core = s.kept.core.clearErr a := by
  simp only [answerAxisClear, lengthIs] <;> (repeat' split) <;> simp
  exact .inr ⟨_, rfl⟩

/-! ### The other operations, queries and alert requests -/

@[simp] theorem kept_answerLampSet : (answerLampSet p s).state.kept = s.kept := by
  simp only [answerLampSet] <;> (repeat' split) <;> simp
  exact kept_forEach fun m t => rfl
@[simp] theorem kept_answerTone : (answerTone p s).state.kept = s.kept := by
  simp only [answerTone, lengthIs] <;> (repeat' split) <;> simp
@[simp] theorem kept_answerQueryStation : (answerQueryStation p s).state.kept = s.kept := by
  simp only [answerQueryStation, lengthIs] <;> (repeat' split) <;> simp
@[simp] theorem kept_answerQueryAxis : (answerQueryAxis p s).state.kept = s.kept := by
  simp only [answerQueryAxis, lengthIs] <;> (repeat' split) <;> simp
@[simp] theorem kept_answerQueryQueue : (answerQueryQueue p s).state.kept = s.kept := by
  simp only [answerQueryQueue, lengthIs] <;> (repeat' split) <;> simp
@[simp] theorem kept_takeFlags {n k : Nat} : (takeFlags n k s).kept = s.kept := kept_forEach fun l t => by simp
@[simp] theorem kept_answerQueryLines : (answerQueryLines p s).state.kept = s.kept := by
  simp only [answerQueryLines, lengthIs] <;> (repeat' split) <;> simp
@[simp] theorem kept_answerQueryAlerts : (answerQueryAlerts p s).state.kept = s.kept := by
  simp only [answerQueryAlerts, lengthIs] <;> (repeat' split) <;> simp
@[simp] theorem kept_answerQueryGallery : (answerQueryGallery p s).state.kept = s.kept := by
  simp only [answerQueryGallery, lengthIs] <;> (repeat' split) <;> simp
@[simp] theorem kept_answerAlertAck : (answerAlertAck p s).state.kept = s.kept := by
  simp only [answerAlertAck, lengthIs] <;> (repeat' split) <;> simp
@[simp] theorem kept_answerAlertCall : (answerAlertCall p s).state.kept = s.kept := by
  simp only [answerAlertCall, lengthIs] <;> (repeat' split) <;> simp
@[simp] theorem kept_clearOverflow : (clearOverflow s).kept = s.kept := by
  simp only [clearOverflow]; split <;> simp
@[simp] theorem kept_answerAlertClearOverflow : (answerAlertClearOverflow p s).state.kept = s.kept := by
  simp only [answerAlertClearOverflow, lengthIs] <;> (repeat' split) <;> simp

/-! ### Masks, arming at OPEN -/

theorem kept_setMasks {m : BitVec 4} {q : Bool} : (setMasks m q s).kept =
    { s.kept with core := { s.kept.core with settings := { s.kept.core.settings with masks := m, quiet := q } } } := by
  simp only [setMasks] <;> (repeat' split) <;> simp <;> rfl

theorem core_openGallery : (openGallery s).kept.core =
    { s.kept.core with settings := { s.kept.core.settings with fixed := true } } := by
  simp [openGallery]; rfl
@[simp] theorem link_openGallery : (openGallery s).kept.link = s.kept.link := by simp [openGallery]; rfl

theorem core_answerOpen : (answerOpen p s).state.kept.core = s.kept.core ∨ (answerOpen p s).state.kept.core =
    { s.kept.core with settings := { s.kept.core.settings with fixed := true } } := by
  simp only [answerOpen, lengthIs, inClosed] <;> (repeat' split) <;> simp [core_openGallery]
@[simp] theorem link_answerOpen : (answerOpen p s).state.kept.link = s.kept.link := by
  simp only [answerOpen, lengthIs, inClosed] <;> (repeat' split) <;> simp

/-! ### Configuration -/

@[simp] theorem kept_configureGallery {c : GalleryCfg} : (configureGallery c s).kept =
    { s.kept with core := { s.kept.core with settings := { s.kept.core.settings with gallery := c } } } := by
  simp only [configureGallery] <;> split <;> simp <;> rfl

theorem core_setStationCfg {st : StationId} {x : Station} : (s.setStation st x).kept =
    { s.kept with core := { s.kept.core with settings := { s.kept.core.settings with
        station := fun i => if st = i then x.cfg else s.kept.core.settings.station i } } } := by
  have h j : ((s.setStation st x).station j).cfg = if st = j then x.cfg else (s.station j).cfg := by
    rw [State.setStation_station]; split <;> rfl
  simp [State.kept, h]

theorem kept_configureStation {st : StationId} {r : StationRec} : (configureStation st r s).kept =
    { s.kept with core := { s.kept.core with settings := { s.kept.core.settings with
        station := fun i => if st = i then r else s.kept.core.settings.station i } } } := by
  simp [configureStation, core_setStationCfg]

theorem core_setLineCfg {l : LineId} {x : Line} : (s.setLine l x).kept =
    { s.kept with core := { s.kept.core with settings := { s.kept.core.settings with
        line := fun i => if l = i then x.cfg else s.kept.core.settings.line i } } } := by
  have h j : ((s.setLine l x).line j).cfg = if l = j then x.cfg else (s.line j).cfg := by
    rw [State.setLine_line]; split <;> rfl
  simp [State.kept, h]

@[simp] theorem kept_loseHomeLine {a : AxisId} : (loseHomeLine a s).kept = s.kept := by
  simp only [loseHomeLine] <;> (repeat' split) <;> simp <;> rw [kept_setAxis] <;> simp

@[simp] theorem core_leaveLine {l : LineId} {x : Line} : (leaveLine l x s).kept.core = s.kept.core := by
  simp only [leaveLine] <;> (repeat' split) <;> simp
@[simp] theorem link_leaveLine {l : LineId} {x : Line} : (leaveLine l x s).kept.link = s.kept.link := by
  simp only [leaveLine] <;> (repeat' split) <;> simp

theorem core_configureLine {l : LineId} {c : LineCfg} : (configureLine l c s).kept.core =
    { s.kept.core with settings := { s.kept.core.settings with
        line := fun i => if l = i then c else s.kept.core.settings.line i } } := by
  simp only [configureLine] <;> (repeat' split) <;> simp [core_setLineCfg]
@[simp] theorem link_configureLine {l : LineId} {c : LineCfg} : (configureLine l c s).kept.link = s.kept.link := by
  simp only [configureLine] <;> (repeat' split) <;> simp [core_setLineCfg]

theorem core_setAxisCfg {a : AxisId} {x : Axis} : (s.setAxis a x).kept.core =
    { s.kept.core with settings := { s.kept.core.settings with
        axis := fun i => if a = i then x.cfg else s.kept.core.settings.axis i } } := by
  have h j : ((s.setAxisQuiet a x).axis j).cfg = if a = j then x.cfg else (s.axis j).cfg := by
    rw [State.setAxisQuiet_axis]; split <;> rfl
  unfold State.setAxis
  split <;> simp [State.kept, h]

/-- The counters after CFG_AXIS: the error count 0, and no held phases if the axis was unconfigured (R115, R117). -/
def Core.restartCounter (a : AxisId) (fresh : Bool) (c : Core) : Core :=
  { c with counter := fun i => if a = i then
      { c.counter i with err := 0, held := if fresh then none else (c.counter i).held } else c.counter i }

@[simp] theorem Axis.restart_cfg {x : Axis} {r : AxisRec} {h : Bool} {n : Int} : (x.restart r h n).cfg = r := by
  simp only [Axis.restart] <;> (repeat' split) <;> rfl
@[simp] theorem Axis.restart_braked {x : Axis} {r : AxisRec} {h : Bool} {n : Int} : (x.restart r h n).braked = x.braked := by
  simp only [Axis.restart] <;> (repeat' split) <;> rfl

theorem core_setHeld {a : AxisId} : (s.setBridge a { s.bridge a with held := none }).kept.core =
    { s.kept.core with counter := fun i => if a = i then { s.kept.core.counter i with held := none }
        else s.kept.core.counter i } := by
  simp only [State.kept, Core.mk.injEq, State.setBridge_bridge]
  refine ⟨rfl, ?_, rfl, rfl, rfl, rfl, rfl⟩
  funext i
  split
  · subst_vars; rfl
  · rfl

theorem core_configureAxis {a : AxisId} {r : AxisRec} : (configureAxis a r s).kept.core =
    { s.kept.core with settings := { s.kept.core.settings with
        axis := fun i => if a = i then r else s.kept.core.settings.axis i } }.restartCounter a (!(s.axis a).configured) := by
  simp only [configureAxis, core_judgeBraked, kept_reportHealth, kept_judgeBridge]
  split
  · rename_i h
    simp [core_setAxisCfg, Core.clearErr, Core.restartCounter, h]
  · rename_i h
    simp only [core_setHeld, core_clearEncoderErrors, kept_endFaultAlerts, core_setAxisCfg, Core.clearErr,
      Core.restartCounter, Axis.restart_cfg, Core.mk.injEq, true_and, and_true]
    funext i
    split <;> simp_all
@[simp] theorem link_configureAxis {a : AxisId} {r : AxisRec} : (configureAxis a r s).kept.link = s.kept.link := by
  simp only [configureAxis] <;> split <;> simp

theorem kept_setZone {g : GroupId} {z : ZoneId} : (s.setGroup g { s.group g with zone := z }).kept =
    { s.kept with core := { s.kept.core with settings := { s.kept.core.settings with
        zone := fun i => if g = i then z else s.kept.core.settings.zone i } } } := by
  have h j : ((s.setGroup g { s.group g with zone := z }).group j).zone = if g = j then z else (s.group j).zone := by
    rw [State.setGroup_group]; split <;> rfl
  have h2 j : ((s.setGroup g { s.group g with zone := z }).group j).state = (s.group j).state := by
    rw [State.setGroup_group]; split <;> simp_all
  have h3 j : ((s.setGroup g { s.group g with zone := z }).group j).brokenLines = (s.group j).brokenLines := by
    rw [State.setGroup_group]; split <;> simp_all
  simp [State.kept, h, h2, h3]

theorem kept_configureSupply {c : SupplyCfg} : (configureSupply c s).kept =
    { s.kept with core := { s.kept.core with settings := { s.kept.core.settings with supply := c } } } := rfl

theorem kept_writeSteps {n : Nat} {l : List Byte} : (writeSteps n l s).kept =
    { s.kept with core := { s.kept.core with settings := { s.kept.core.settings with
        store := Memory.writeAll s.store (Config.stepBytes * n) l } } } := rfl

end Sys2Proof.Machine
end

