-- ==== Sys2Proof/Laws/Transport.lean ====
section
/-! SUPPORT. A property that the link's own state does not touch and that every answer keeps is kept by the receiver, the
transmitter and every request given as a command. -/

namespace Sys2Proof.Machine

open Sys2Proof

/-- A property that no change of the link's own state touches. -/
def LinkBlind (Q : State → Prop) : Prop := ∀ s x, Q s → Q (s.setLink x)

/-- A property that every answer keeps. -/
def AnswersKeep (Q : State → Prop) : Prop := ∀ f s, Q s → Q (answer f s).state

variable {Q : State → Prop} {s : State}

theorem LinkBlind.handleFrame (hl : LinkBlind Q) {own : State → Ans} {f : Frame} (h : Q (own s).state) :
    Q (handleFrame own f s) := hl _ _ h

theorem LinkBlind.takeHeld (hl : LinkBlind Q) {a : Frame → State → Ans} (ha : ∀ f t, Q t → Q (a f t).state) (h : Q s) :
    Q (takeHeld a s) := by
  unfold Sys2Proof.Machine.takeHeld
  (repeat' split)
  · exact hl.handleFrame (ha _ _ (hl _ _ h))
  · exact h
  · exact h

theorem LinkBlind.drainBytes (hl : LinkBlind Q) {a : Frame → State → Ans} (ha : ∀ f t, Q t → Q (a f t).state)
    {l : List (Byte × Bool)} (h : Q s) : Q (drainBytes a l s) := by
  induction l generalizing s with
  | nil => exact h
  | cons b l ih =>
    unfold Sys2Proof.Machine.drainBytes
    split
    · exact h
    · exact ih (hl.takeHeld ha (hl _ _ h))

theorem LinkBlind.receive (hl : LinkBlind Q) {a : Frame → State → Ans} (ha : ∀ f t, Q t → Q (a f t).state) (h : Q s) :
    Q (receive a s) := hl.drainBytes ha (hl.takeHeld ha h)

theorem LinkBlind.interruption (hl : LinkBlind Q) (h : Q s) : Q (interruption s) := by
  unfold Sys2Proof.Machine.interruption; split <;> exact hl _ _ h

theorem LinkBlind.receiveByte (hl : LinkBlind Q) {a : Frame → State → Ans} (ha : ∀ f t, Q t → Q (a f t).state) {b : Byte}
    (h : Q s) : Q (receiveByte a b s) := by
  unfold Sys2Proof.Machine.receiveByte; dsimp only
  split
  · exact hl.receive ha (hl _ _ (hl _ _ h))
  · exact hl.interruption (hl _ _ h)

theorem LinkBlind.kickTx (hl : LinkBlind Q) (h : Q s) : Q (kickTx s) := by
  unfold Sys2Proof.Machine.kickTx chooseTx
  (repeat' split) <;> first | exact hl _ _ h | exact h

theorem keeps_forEach {α : Type} {l : List α} {f : α → State → State} (hf : ∀ a t, Q t → Q (f a t)) (h : Q s) :
    Q (forEach l f s) := by
  unfold forEach
  induction l generalizing s with
  | nil => exact h
  | cons a l ih => exact ih (hf a s h)

theorem LinkBlind.submit (hl : LinkBlind Q) {a : Frame → State → Ans} {own : State → Ans} {f : Frame}
    (ha : ∀ f t, Q t → Q (a f t).state) (ho : Q (own s).state) (h : Q s) : Q (submit a own f s) := by
  unfold Sys2Proof.Machine.submit
  (repeat' split)
  · exact hl.kickTx (keeps_forEach (fun b t ht => hl.receiveByte ha ht) h)
  · exact hl.kickTx (hl.handleFrame ho)
  · exact hl _ _ h

/-- The end of a frame keeps the property if the two resets do. -/
theorem LinkBlind.frameSent (hl : LinkBlind Q) {a : Frame → State → Ans} (ha : ∀ f t, Q t → Q (a f t).state)
    (hr : ∀ t, Q t → Q (resetByRequest t)) (h : Q s) : Q (frameSent a s) := by
  unfold Sys2Proof.Machine.frameSent
  split
  · exact h
  · split
    · refine hl.kickTx (hl.receive ha ?_)
      unfold replyEffect
      split
      · exact hl _ _ h
      · exact hl.interruption (hl _ _ (hl _ _ h))
      · exact hr _ (hl _ _ h)
    · exact hl.kickTx (hl _ _ h)
  · exact hl.kickTx (hl _ _ h)

end Sys2Proof.Machine
end

