-- ==== Sys2Proof/Laws/EveryCommand.lean ====
section
/-! SUPPORT. One case analysis over the commands: a property that is blind to the link's own state is kept by every command if
the answers, the resets and the effects of the events keep it. -/

namespace Sys2Proof.Machine

open Sys2Proof

/-! ### The answer that each request code gets -/

variable {s t : State} {tag : Byte} {p : List Byte}

theorem answer_ident : answer ⟨0x01, tag, p⟩ s = answerIdent p s := rfl
theorem answer_status : answer ⟨0x02, tag, p⟩ s = answerStatus p s := rfl
theorem answer_resetReq : answer ⟨0x03, tag, p⟩ s = answerReset p s := rfl
theorem answer_setLink : answer ⟨0x04, tag, p⟩ s = answerSetLink p s := rfl
theorem answer_noticeEnable : answer ⟨0x05, tag, p⟩ s = answerNoticeEnable p s := rfl
theorem answer_cfgGallery : answer ⟨0x10, tag, p⟩ s = answerCfgGallery p s := rfl
theorem answer_cfgStation : answer ⟨0x11, tag, p⟩ s = answerCfgStation p s := rfl
theorem answer_cfgLine : answer ⟨0x12, tag, p⟩ s = answerCfgLine p s := rfl
theorem answer_cfgAxis : answer ⟨0x13, tag, p⟩ s = answerCfgAxis p s := rfl
theorem answer_cfgGuard : answer ⟨0x14, tag, p⟩ s = answerCfgGuard p s := rfl
theorem answer_cfgSupply : answer ⟨0x15, tag, p⟩ s = answerCfgSupply p s := rfl
theorem answer_stepWrite : answer ⟨0x16, tag, p⟩ s = answerStepWrite p s := rfl
theorem answer_stepRead : answer ⟨0x17, tag, p⟩ s = answerStepRead p s := rfl
theorem answer_openReq : answer ⟨0x20, tag, p⟩ s = answerOpen p s := rfl
theorem answer_closeReq : answer ⟨0x21, tag, p⟩ s = answerClose p s := rfl
theorem answer_play : answer ⟨0x22, tag, p⟩ s = answerPlay p s := rfl
theorem answer_cancel : answer ⟨0x23, tag, p⟩ s = answerCancel p s := rfl
theorem answer_hold : answer ⟨0x24, tag, p⟩ s = answerHold p s := rfl
theorem answer_release : answer ⟨0x25, tag, p⟩ s = answerRelease p s := rfl
theorem answer_stop : answer ⟨0x26, tag, p⟩ s = answerStop p s := rfl
theorem answer_rearm : answer ⟨0x27, tag, p⟩ s = answerRearm p s := rfl
theorem answer_axisMove : answer ⟨0x28, tag, p⟩ s = answerAxisMove p s := rfl
theorem answer_axisHome : answer ⟨0x29, tag, p⟩ s = answerAxisHome p s := rfl
theorem answer_axisClear : answer ⟨0x2A, tag, p⟩ s = answerAxisClear p s := rfl
theorem answer_lampSet : answer ⟨0x2B, tag, p⟩ s = answerLampSet p s := rfl
theorem answer_tone : answer ⟨0x2C, tag, p⟩ s = answerTone p s := rfl
theorem answer_queryStation : answer ⟨0x30, tag, p⟩ s = answerQueryStation p s := rfl
theorem answer_queryAxis : answer ⟨0x31, tag, p⟩ s = answerQueryAxis p s := rfl
theorem answer_queryQueue : answer ⟨0x32, tag, p⟩ s = answerQueryQueue p s := rfl
theorem answer_queryLines : answer ⟨0x33, tag, p⟩ s = answerQueryLines p s := rfl
theorem answer_queryAlerts : answer ⟨0x34, tag, p⟩ s = answerQueryAlerts p s := rfl
theorem answer_queryGallery : answer ⟨0x35, tag, p⟩ s = answerQueryGallery p s := rfl
theorem answer_alertAck : answer ⟨0x38, tag, p⟩ s = answerAlertAck p s := rfl
theorem answer_alertCall : answer ⟨0x39, tag, p⟩ s = answerAlertCall p s := rfl
theorem answer_alertMask : answer ⟨0x3A, tag, p⟩ s = answerAlertMask p s := rfl
theorem answer_alertClearOverflow : answer ⟨0x3B, tag, p⟩ s = answerAlertClearOverflow p s := rfl

/-! ### Every command -/

/-- The effects of the events on a property: the resets, and the effect of every event that does not belong to the link. -/
structure EventsKeep (Q : State → Prop) : Prop where
  pin : ∀ s, Q s → Q (resetByPin s)
  request : ∀ s, Q s → Q (resetByRequest s)
  started : ∀ s, Q s → Q (sendStarted s)
  gap : ∀ s, Q s → Q (gapExpiry s)
  sample : ∀ (v : LineSet) s, Q s → Q (inputSample v s)
  debounced : ∀ (l : LineId) s, Q s → Q (lineDebounced l s)
  stuck : ∀ (l : LineId) s, Q s → Q (stuckExpiry l s)
  leak : ∀ (i : StationId) s, Q s → Q (tallyLeak i s)
  flash : ∀ (i : StationId) s, Q s → Q (flashExpiry i s)
  cooldown : ∀ (i : StationId) s, Q s → Q (cooldownExpiry i s)
  rest : ∀ (i : StationId) s, Q s → Q (restExpiry i s)
  senior : ∀ (i : StationId) s, Q s → Q (becomeSenior i s)
  wait : ∀ (i : StationId) s, Q s → Q (waitExpiry i s)
  interval : ∀ s, Q s → Q (profileInterval s)
  jam : ∀ (a : AxisId) s, Q s → Q (followingJam a s)
  encoder : ∀ (a : AxisId) (x : Bool × Bool) s, Q s → Q (encoderTransition a x s)
  period : ∀ s, Q s → Q (periodStart s)
  onTime : ∀ (a : AxisId) s, Q s → Q (s.setBridge a (s.bridge a).onTimeEnd)
  deadTime : ∀ (a : AxisId) (g : LegId) s, Q s → Q (s.setBridge a ((s.bridge a).deadEnd g))
  supply : ∀ (v : Nat) s, Q s → Q (supplySample v s)
  warn : ∀ s, Q s → Q (warnConfirm s)
  trip : ∀ s, Q s → Q (tripConfirm s)
  recovery : ∀ s, Q s → Q (recoveryExpiry s)
  escalation : ∀ (i : SlotId) s, Q s → Q (escalate i s)
  chimeRepeat : ∀ s, Q s → Q (Sys2Proof.Machine.chimeRepeat s)
  chimeNote : ∀ s, Q s → Q (chimeNoteEnd s)
  tone : ∀ (z : ZoneId) s, Q s → Q (toneEnd z s)
  phase : ∀ s, Q s → Q (flashPhase s)
  wave : ∀ (o : SoundOut) s, Q s → Q (waveHalf o s)

/-- A property that is blind to the link's own state, kept by every answer and by every event's effect, is kept by every
command. -/
theorem exec_keeps {Q : State → Prop} (hl : LinkBlind Q) (ha : AnswersKeep Q) (he : EventsKeep Q) {c : Instr}
    (h : exec c s = .next t) (hs : Q s) : Q t := by
  have hev {u : State} (hu : Q u) (e : complete u = .next t) : Q t := by cases e; exact hl.kickTx hu
  have hreq {ty : Byte} {own : List Byte → State → Ans} {tag : Byte} {p : List Byte}
      (ho : ∀ s, Q s → Q (own p s).state) (e : request ty own tag p s = .next t) : Q t :=
    hev (hl.submit ha (ho s hs) hs) e
  match c with
  | .ident tag p => exact hreq (fun s hq => ha ⟨0x01, tag, p⟩ s hq) h
  | .status tag p => exact hreq (fun s hq => ha ⟨0x02, tag, p⟩ s hq) h
  | .resetReq tag p => exact hreq (fun s hq => ha ⟨0x03, tag, p⟩ s hq) h
  | .setLink tag p => exact hreq (fun s hq => ha ⟨0x04, tag, p⟩ s hq) h
  | .noticeEnable tag p => exact hreq (fun s hq => ha ⟨0x05, tag, p⟩ s hq) h
  | .cfgGallery tag p => exact hreq (fun s hq => ha ⟨0x10, tag, p⟩ s hq) h
  | .cfgStation tag p => exact hreq (fun s hq => ha ⟨0x11, tag, p⟩ s hq) h
  | .cfgLine tag p => exact hreq (fun s hq => ha ⟨0x12, tag, p⟩ s hq) h
  | .cfgAxis tag p => exact hreq (fun s hq => ha ⟨0x13, tag, p⟩ s hq) h
  | .cfgGuard tag p => exact hreq (fun s hq => ha ⟨0x14, tag, p⟩ s hq) h
  | .cfgSupply tag p => exact hreq (fun s hq => ha ⟨0x15, tag, p⟩ s hq) h
  | .stepWrite tag p => exact hreq (fun s hq => ha ⟨0x16, tag, p⟩ s hq) h
  | .stepRead tag p => exact hreq (fun s hq => ha ⟨0x17, tag, p⟩ s hq) h
  | .openReq tag p => exact hreq (fun s hq => ha ⟨0x20, tag, p⟩ s hq) h
  | .closeReq tag p => exact hreq (fun s hq => ha ⟨0x21, tag, p⟩ s hq) h
  | .play tag p => exact hreq (fun s hq => ha ⟨0x22, tag, p⟩ s hq) h
  | .cancel tag p => exact hreq (fun s hq => ha ⟨0x23, tag, p⟩ s hq) h
  | .hold tag p => exact hreq (fun s hq => ha ⟨0x24, tag, p⟩ s hq) h
  | .release tag p => exact hreq (fun s hq => ha ⟨0x25, tag, p⟩ s hq) h
  | .stop tag p => exact hreq (fun s hq => ha ⟨0x26, tag, p⟩ s hq) h
  | .rearm tag p => exact hreq (fun s hq => ha ⟨0x27, tag, p⟩ s hq) h
  | .axisMove tag p => exact hreq (fun s hq => ha ⟨0x28, tag, p⟩ s hq) h
  | .axisHome tag p => exact hreq (fun s hq => ha ⟨0x29, tag, p⟩ s hq) h
  | .axisClear tag p => exact hreq (fun s hq => ha ⟨0x2A, tag, p⟩ s hq) h
  | .lampSet tag p => exact hreq (fun s hq => ha ⟨0x2B, tag, p⟩ s hq) h
  | .tone tag p => exact hreq (fun s hq => ha ⟨0x2C, tag, p⟩ s hq) h
  | .queryStation tag p => exact hreq (fun s hq => ha ⟨0x30, tag, p⟩ s hq) h
  | .queryAxis tag p => exact hreq (fun s hq => ha ⟨0x31, tag, p⟩ s hq) h
  | .queryQueue tag p => exact hreq (fun s hq => ha ⟨0x32, tag, p⟩ s hq) h
  | .queryLines tag p => exact hreq (fun s hq => ha ⟨0x33, tag, p⟩ s hq) h
  | .queryAlerts tag p => exact hreq (fun s hq => ha ⟨0x34, tag, p⟩ s hq) h
  | .queryGallery tag p => exact hreq (fun s hq => ha ⟨0x35, tag, p⟩ s hq) h
  | .alertAck tag p => exact hreq (fun s hq => ha ⟨0x38, tag, p⟩ s hq) h
  | .alertCall tag p => exact hreq (fun s hq => ha ⟨0x39, tag, p⟩ s hq) h
  | .alertMask tag p => exact hreq (fun s hq => ha ⟨0x3A, tag, p⟩ s hq) h
  | .alertClearOverflow tag p => exact hreq (fun s hq => ha ⟨0x3B, tag, p⟩ s hq) h
  | .unknownType ty tag p => exact hreq (own := fun q => answer ⟨ty, tag, q⟩) (fun s hq => ha ⟨ty, tag, p⟩ s hq) h
  | .resetPin => exact hev (he.pin s hs) h
  | .started => exact hev (he.started s hs) h
  | .rxByte b => exact hev (hl.receiveByte ha hs) h
  | .framingError => exact hev (hl.interruption (hl _ _ hs)) h
  | .linkBreak => exact hev (hl.interruption hs) h
  | .gapExpiry => exact hev (he.gap s hs) h
  | .frameSent => exact hev (hl.frameSent ha he.request hs) h
  | .inputSample v => exact hev (he.sample v s hs) h
  | .lineDebounced l => exact hev (he.debounced l s hs) h
  | .stuckTimerExpiry l => exact hev (he.stuck l s hs) h
  | .tallyLeakExpiry i => exact hev (he.leak i s hs) h
  | .waitFlashExpiry i => exact hev (he.flash i s hs) h
  | .cooldownExpiry i => exact hev (he.cooldown i s hs) h
  | .restExpiry i => exact hev (he.rest i s hs) h
  | .entryBecomesSenior i => exact hev (he.senior i s hs) h
  | .waitTimeExpiry i => exact hev (he.wait i s hs) h
  | .profileInterval => exact hev (he.interval s hs) h
  | .followingErrorJam a => exact hev (he.jam a s hs) h
  | .encoderTransition a x y => exact hev (he.encoder a (x, y) s hs) h
  | .pwmPeriodStart => exact hev (he.period s hs) h
  | .pwmOnTimeEnd a => exact hev (he.onTime a s hs) h
  | .deadTimeEnd a g => exact hev (he.deadTime a g s hs) h
  | .supplySample v => exact hev (he.supply v.val s hs) h
  | .warnConfirm => exact hev (he.warn s hs) h
  | .tripConfirm => exact hev (he.trip s hs) h
  | .recoveryTimerExpiry => exact hev (he.recovery s hs) h
  | .escalationDeadlineExpiry i => exact hev (he.escalation i s hs) h
  | .chimeRepeatExpiry => exact hev (he.chimeRepeat s hs) h
  | .chimeNoteEnd => exact hev (he.chimeNote s hs) h
  | .toneEnd z => exact hev (he.tone z s hs) h
  | .flashPhase => exact hev (he.phase s hs) h
  | .toneWaveHalfPeriod o => exact hev (he.wave o s hs) h

/-- Such a property is kept by every step, if the passing of time and the taking of a command from the queue keep it. -/
theorem step_keeps {Q : State → Prop} (hl : LinkBlind Q) (ha : AnswersKeep Q) (he : EventsKeep Q)
    (hq : ∀ s l, Q s → Q { s with pending := l }) (hi : ∀ s, Q s → Q (idle s)) (h : step s = .next t) (hs : Q s) : Q t := by
  unfold step at h
  split at h
  · exact exec_keeps hl ha he h (hq _ _ hs)
  · cases h; exact hi s hs

end Sys2Proof.Machine
end

