-- ==== Sys2Proof/Laws/Memory.lean ====
section
/-! SUPPORT. The step store: every write keeps its canonical form, and what a byte reads as after a write. -/

namespace Sys2Proof.Machine

open Sys2Proof

/-- Bytes of the store. -/
def Memory.size : Nat := Config.stepCount * Config.stepBytes

theorem Memory.wfFrom_cons {lo b : Nat} {v : Byte} {m : List Host.Cell} :
    Memory.wfFrom lo ((b, v) :: m) = true ↔ lo ≤ b ∧ b < Memory.size ∧ v ≠ 0 ∧ Memory.wfFrom (b + 1) m = true := by
  simp [Memory.wfFrom, Memory.size, and_assoc]

theorem Memory.wfFrom_mono {lo lo' : Nat} {m : List Host.Cell} (h : lo' ≤ lo) (hw : Memory.wfFrom lo m = true) :
    Memory.wfFrom lo' m = true := by
  cases m with
  | nil => rfl
  | cons c m =>
    rw [Memory.wfFrom_cons] at hw ⊢
    exact ⟨Nat.le_trans h hw.1, hw.2⟩

/-- Writing a byte at or above the lower end keeps the canonical form. -/
theorem Memory.wfFrom_write {lo a : Nat} {v : Byte} {m : List Host.Cell} (hw : Memory.wfFrom lo m = true) (hlo : lo ≤ a)
    (ha : a < Memory.size) : Memory.wfFrom lo (Memory.write m a v) = true := by
  induction m generalizing lo with
  | nil =>
    unfold Memory.write
    split
    · rfl
    · rw [Memory.wfFrom_cons]; exact ⟨hlo, ha, ‹_›, rfl⟩
  | cons c m ih =>
    obtain ⟨b, w⟩ := c
    have hw' := Memory.wfFrom_cons.mp hw
    unfold Memory.write
    split
    · split
      · exact hw
      · rw [Memory.wfFrom_cons]
        exact ⟨hlo, ha, ‹_›, Memory.wfFrom_cons.mpr ⟨by omega, hw'.2⟩⟩
    · split
      · split
        · exact Memory.wfFrom_mono (by omega) hw'.2.2.2
        · rw [Memory.wfFrom_cons]; exact ⟨hw'.1, hw'.2.1, ‹_›, hw'.2.2.2⟩
      · rw [Memory.wfFrom_cons]
        exact ⟨hw'.1, hw'.2.1, hw'.2.2.1, ih hw'.2.2.2 (by omega)⟩

theorem Memory.write_keeps_wf {a : Nat} {v : Byte} {m : List Host.Cell} (hw : Memory.wf m = true) (ha : a < Memory.size) :
    Memory.wf (Memory.write m a v) = true := Memory.wfFrom_write hw (Nat.zero_le a) ha

theorem Memory.writeAll_keeps_wf {a : Nat} {l : List Byte} {m : List Host.Cell} (hw : Memory.wf m = true)
    (ha : a + l.length ≤ Memory.size) : Memory.wf (Memory.writeAll m a l) = true := by
  induction l generalizing m a with
  | nil => exact hw
  | cons v l ih =>
    simp only [List.length_cons] at ha
    exact ih (Memory.write_keeps_wf hw (by omega)) (by omega)

/-- Another byte reads as before. -/
theorem Memory.read_write_ne {a b : Nat} {v : Byte} {m : List Host.Cell} (h : b ≠ a) :
    Memory.read (Memory.write m a v) b = Memory.read m b := by
  induction m with
  | nil => unfold Memory.write; split <;> simp [Memory.read, h]
  | cons c m ih =>
    obtain ⟨x, w⟩ := c
    unfold Memory.write
    (repeat' split) <;> simp_all [Memory.read]

theorem Memory.read_below {lo a : Nat} {m : List Host.Cell} (hw : Memory.wfFrom lo m = true) (h : a < lo) :
    Memory.read m a = 0 := by
  induction m generalizing lo with
  | nil => rfl
  | cons c m ih =>
    obtain ⟨b, w⟩ := c
    have hw' := Memory.wfFrom_cons.mp hw
    have : a ≠ b := by omega
    simp only [Memory.read, this, if_false]
    exact ih hw'.2.2.2 (by omega)

/-- The byte written reads as written. -/
theorem Memory.read_write_self {lo a : Nat} {v : Byte} {m : List Host.Cell} (hw : Memory.wfFrom lo m = true) :
    Memory.read (Memory.write m a v) a = v := by
  induction m generalizing lo with
  | nil => unfold Memory.write; split <;> simp_all [Memory.read]
  | cons c m ih =>
    obtain ⟨b, w⟩ := c
    have hw' := Memory.wfFrom_cons.mp hw
    unfold Memory.write
    (repeat' split)
    · have h : a ≠ b := by omega
      rw [Memory.read, if_neg h, Memory.read_below hw'.2.2.2 (by omega)]; simp [*]
    · simp [Memory.read]
    · rw [Memory.read_below hw'.2.2.2 (by omega)]; simp [*]
    · simp [Memory.read, *]
    · simp only [Memory.read, *, if_false]
      exact ih hw'.2.2.2

/-- A byte outside a run of bytes written reads as before. -/
theorem Memory.read_writeAll_out {a b : Nat} {l : List Byte} {m : List Host.Cell} (h : b < a ∨ a + l.length ≤ b) :
    Memory.read (Memory.writeAll m a l) b = Memory.read m b := by
  induction l generalizing m a with
  | nil => rfl
  | cons v l ih =>
    simp only [List.length_cons] at h
    rw [Memory.writeAll, ih (by omega), Memory.read_write_ne (by omega)]

/-- A byte of a run of bytes written reads as written. -/
theorem Memory.read_writeAll_in {a k : Nat} {l : List Byte} {m : List Host.Cell} (hw : Memory.wf m = true)
    (ha : a + l.length ≤ Memory.size) (hk : k < l.length) : Memory.read (Memory.writeAll m a l) (a + k) = l[k] := by
  induction l generalizing m a k with
  | nil => simp at hk
  | cons v l ih =>
    simp only [List.length_cons] at ha hk
    rw [Memory.writeAll]
    cases k with
    | zero => rw [Memory.read_writeAll_out (by omega)]; exact Memory.read_write_self hw
    | succ k =>
      have := ih (m := Memory.write m a v) (a := a + 1) (k := k) (Memory.write_keeps_wf hw (by omega)) (by omega) (by omega)
      simpa [Nat.add_assoc, Nat.add_comm 1 k] using this

/-- The store right after a reset is in canonical form. -/
theorem Memory.reset_wf : Memory.wf State.reset.store = true := rfl

end Sys2Proof.Machine
end

