-- ==== Sys2Proof/Laws/SettingsWrites.lean ====
section
/-! SUPPORT. Everything an answer can do to the stored settings, said once: nothing, or one write, with the tests that let it
through. -/

namespace Sys2Proof.Machine

open Sys2Proof

/-- What one answer makes of the stored settings, given the state it was asked in. -/
inductive SettingsWrite (s : State) : Settings → Prop where
  | same : SettingsWrite s s.kept.core.settings
  | gallery (p : List Byte) (c : GalleryCfg) (h : parseGallery p = some c)
      (hf : s.gallery.safetyFixed = true → c.capacity = s.gallery.cfg.capacity) :
      SettingsWrite s { s.kept.core.settings with gallery := c }
  | station (p : List Byte) (st : StationId) (r : StationRec) (h : parseStation p = some r) (hd : r.lampsDistinct = true)
      (ht : s.lampsTaken st r = false) (hp : p.length = 24) :
      SettingsWrite s { s.kept.core.settings with station := fun i => if st = i then r else s.kept.core.settings.station i }
  | line (p : List Byte) (l : LineId) (c : LineCfg) (h : parseLine p = some c) (ht : s.homeTaken l c.role = false)
      (hf : s.gallery.safetyFixed = true → (s.line l).cfg.changesSafety c = false) :
      SettingsWrite s { s.kept.core.settings with line := fun i => if l = i then c else s.kept.core.settings.line i }
  | axis (p : List Byte) (a : AxisId) (r : AxisRec) (h : parseAxis p = some r)
      (hf : s.gallery.safetyFixed = true → (s.axis a).cfg.changesSafety r = false) (ho : (s.axis a).owner = .none) :
      SettingsWrite s { s.kept.core.settings with axis := fun i => if a = i then r else s.kept.core.settings.axis i }
  | zone (g : GroupId) (z : ZoneId) (hf : s.gallery.safetyFixed = true → (s.group g).zone = z) :
      SettingsWrite s { s.kept.core.settings with zone := fun i => if g = i then z else s.kept.core.settings.zone i }
  | supply (p : List Byte) (c : SupplyCfg) (h : parseSupply p = some c)
      (hf : s.gallery.safetyFixed = true → c = s.safety.supply.cfg) :
      SettingsWrite s { s.kept.core.settings with supply := c }
  | store (first : Nat) (l : List Byte) (h : Config.stepBytes * first + l.length ≤ Memory.size)
      (hb : ∀ k, k < l.length / Config.stepBytes → s.stepBusy (first + k) = false) :
      SettingsWrite s { s.kept.core.settings with store := Memory.writeAll s.store (Config.stepBytes * first) l }
  | fixed : SettingsWrite s { s.kept.core.settings with fixed := true }
  | masks (m : BitVec 4) (q : Bool) : SettingsWrite s { s.kept.core.settings with masks := m, quiet := q }

variable {s : State} {p : List Byte}

/-- A settings equation gives the write that changes nothing. -/
theorem SettingsWrite.of_kept {t : State} (h : t.kept.core.settings = s.kept.core.settings) :
    SettingsWrite s t.kept.core.settings := by rw [h]; exact .same

theorem settings_cfgGallery : SettingsWrite s (answerCfgGallery p s).state.kept.core.settings := by
  unfold answerCfgGallery lengthIs inClosed
  (repeat' split) <;> try exact .same
  simp only [accept_state, kept_configureGallery]
  exact .gallery p _ ‹_› (by simp_all)

theorem settings_cfgStation : SettingsWrite s (answerCfgStation p s).state.kept.core.settings := by
  unfold answerCfgStation lengthIs inClosed
  (repeat' split) <;> try exact .same
  simp only [accept_state, kept_configureStation]
  exact .station p _ _ ‹_› (by simp_all) (by simp_all) (by simp_all)

theorem settings_cfgLine : SettingsWrite s (answerCfgLine p s).state.kept.core.settings := by
  unfold answerCfgLine lengthIs inClosed
  (repeat' split) <;> try exact .same
  simp only [accept_state, kept_endEvent, core_configureLine]
  exact .line p _ _ ‹_› (by simp_all) (by simp_all)

theorem settings_cfgAxis : SettingsWrite s (answerCfgAxis p s).state.kept.core.settings := by
  unfold answerCfgAxis lengthIs inClosed
  (repeat' split) <;> try exact .same
  simp only [accept_state, kept_endEvent, core_configureAxis]
  exact .axis p _ _ ‹_› (by simp_all) (by simp_all)

theorem settings_cfgGuard : SettingsWrite s (answerCfgGuard p s).state.kept.core.settings := by
  unfold answerCfgGuard lengthIs inClosed
  (repeat' split) <;> try exact .same
  simp only [accept_state, kept_setZone]
  exact .zone _ _ (by simp_all)

theorem settings_cfgSupply : SettingsWrite s (answerCfgSupply p s).state.kept.core.settings := by
  unfold answerCfgSupply lengthIs inClosed
  (repeat' split) <;> try exact .same
  simp only [accept_state, kept_configureSupply]
  exact .supply p _ ‹_› (by simp_all)

theorem settings_stepWrite : SettingsWrite s (answerStepWrite p s).state.kept.core.settings := by
  unfold answerStepWrite
  dsimp only
  (repeat' split) <;> try exact .same
  rename_i hr hb
  simp only [accept_state, kept_writeSteps]
  simp only [stepRange, inRange, Bool.and_eq_true, decide_eq_true_eq] at hr
  have hc : (p.drop 3).length = Config.stepBytes * u8 p 2 := by rw [List.length_drop]; omega
  refine .store _ _ ?_ ?_
  · rw [hc]; simp only [Memory.size, Config.stepCount, Config.stepBytes] at hr ⊢; omega
  · intro k hk
    rw [hc, Nat.mul_div_cancel_left _ (by decide)] at hk
    simp only [List.any_eq_true, List.mem_range, not_exists, not_and] at hb
    simpa using hb k hk

theorem settings_open : SettingsWrite s (answerOpen p s).state.kept.core.settings := by
  obtain h | h := core_answerOpen (p := p) (s := s) <;> rw [h]
  · exact .same
  · exact .fixed

theorem settings_axisClear : SettingsWrite s (answerAxisClear p s).state.kept.core.settings := by
  obtain h | ⟨a, h⟩ := core_answerAxisClear (p := p) (s := s) <;> rw [h] <;> exact .same

theorem settings_alertMask : SettingsWrite s (answerAlertMask p s).state.kept.core.settings := by
  unfold answerAlertMask lengthIs
  split
  · simp only [accept_state, kept_setMasks]; exact .masks _ _
  · exact .same

/-- Every answer makes one of these writes, or none. -/
theorem answer_settings (f : Frame) (s : State) : SettingsWrite s (answer f s).state.kept.core.settings := by
  unfold answer
  split
  · exact .of_kept (by rw [kept_answerIdent])
  · exact .of_kept (by rw [kept_answerStatus])
  · exact .of_kept (by rw [core_answerReset])
  · exact .of_kept (by rw [kept_answerSetLink])
  · exact .of_kept (by rw [core_answerNoticeEnable])
  · exact settings_cfgGallery
  · exact settings_cfgStation
  · exact settings_cfgLine
  · exact settings_cfgAxis
  · exact settings_cfgGuard
  · exact settings_cfgSupply
  · exact settings_stepWrite
  · exact .of_kept (by rw [kept_answerStepRead])
  · exact settings_open
  · exact .of_kept (by rw [kept_answerClose])
  · exact .of_kept (by rw [kept_answerPlay])
  · exact .of_kept (by rw [kept_answerCancel])
  · exact .of_kept (by rw [kept_answerHold])
  · exact .of_kept (by rw [kept_answerRelease])
  · exact .of_kept (by rw [kept_answerStop])
  · exact .of_kept (by rw [core_answerRearm])
  · exact .of_kept (by rw [kept_answerAxisMove])
  · exact .of_kept (by rw [kept_answerAxisHome])
  · exact settings_axisClear
  · exact .of_kept (by rw [kept_answerLampSet])
  · exact .of_kept (by rw [kept_answerTone])
  · exact .of_kept (by rw [kept_answerQueryStation])
  · exact .of_kept (by rw [kept_answerQueryAxis])
  · exact .of_kept (by rw [kept_answerQueryQueue])
  · exact .of_kept (by rw [kept_answerQueryLines])
  · exact .of_kept (by rw [kept_answerQueryAlerts])
  · exact .of_kept (by rw [kept_answerQueryGallery])
  · exact .of_kept (by rw [kept_answerAlertAck])
  · exact .of_kept (by rw [kept_answerAlertCall])
  · exact settings_alertMask
  · exact .of_kept (by rw [kept_answerAlertClearOverflow])
  · exact .same

end Sys2Proof.Machine
end

