-- ==== Sys2Proof/Laws/SettingsKept.lean ====
section
/-! SUPPORT. The stored settings and the brakes over the remaining events, and the package for invariants of the settings: what
every write of an answer keeps, and a reset sets up, every step keeps. -/

namespace Sys2Proof.Machine

open Sys2Proof

variable {s t : State}

/-! ### Events with a state of their own -/

theorem kept_setSampled {n : Time} : State.kept { s with lines := { s.lines with sampled := true, sampleTime := n } } =
    { s.kept with core := { s.kept.core with sampled := (true, n) } } := rfl

/-- A sample changes of what is kept only that, and when, a sample was taken. -/
theorem kept_sampleLines {v : LineSet} : (sampleLines v s).kept =
    { s.kept with core := { s.kept.core with sampled := (true, s.now) } } := by
  have h : (forEach lineIds (fun l u => u.setLine l ((u.line l).sample (hasBit v l.val) s.now)) s).kept = s.kept :=
    kept_forEach fun l u => by simp
  unfold sampleLines
  dsimp only
  rw [kept_setSampled, h]

@[simp] theorem settings_inputSample {v : LineSet} : (inputSample v s).kept.core.settings = s.kept.core.settings := by
  unfold inputSample
  dsimp only
  rw [same_deliverMoment (fun k => k.core.settings) (fun e u => by simp), kept_sampleLines,
    same_forEachUnordered (fun k => k.core.settings) (fun l u => by simp)]

@[simp] theorem counter_inputSample {v : LineSet} : (inputSample v s).kept.core.counter = s.kept.core.counter := by
  unfold inputSample
  dsimp only
  rw [same_deliverMoment (fun k => k.core.counter) (fun e u => by simp), kept_sampleLines,
    same_forEachUnordered (fun k => k.core.counter) (fun l u => by simp)]

@[simp] theorem link_inputSample {v : LineSet} : (inputSample v s).kept.link = s.kept.link := by
  unfold inputSample
  dsimp only
  rw [same_deliverMoment (fun k => k.link) (fun e u => by simp), kept_sampleLines,
    same_forEachUnordered (fun k => k.link) (fun l u => by simp)]

@[simp] theorem settings_setBridge {a : AxisId} {x : Bridge} :
    (s.setBridge a x).kept.core.settings = s.kept.core.settings := rfl

@[simp] theorem settings_encoderTransition {a : AxisId} {x : Bool × Bool} :
    (encoderTransition a x s).kept.core.settings = s.kept.core.settings := by
  simp only [encoderTransition, legalTransition, illegalTransition] <;> (repeat' split) <;> simp
@[simp] theorem brakes_encoderTransition {a : AxisId} {x : Bool × Bool} :
    (encoderTransition a x s).kept.brakes = s.kept.brakes := by
  simp only [encoderTransition, legalTransition, illegalTransition] <;> (repeat' split) <;> simp
@[simp] theorem link_encoderTransition {a : AxisId} {x : Bool × Bool} :
    (encoderTransition a x s).kept.link = s.kept.link := by
  simp only [encoderTransition, legalTransition, illegalTransition] <;> (repeat' split) <;> simp

theorem Bridge.startPeriod_kept {k d : Nat} {b : Bridge} : (b.startPeriod k d).raw = b.raw
    ∧ (b.startPeriod k d).held = b.held ∧ (b.startPeriod k d).err = b.err := by
  simp only [Bridge.startPeriod] <;> split <;> exact ⟨rfl, rfl, rfl⟩

theorem Bridge.periodStart_kept {x : Axis} {k d : Nat} {b : Bridge} : (b.periodStart x k d).raw = b.raw
    ∧ (b.periodStart x k d).held = b.held ∧ (b.periodStart x k d).err = b.err := by
  unfold Bridge.periodStart
  (repeat' split) <;> first | exact Bridge.startPeriod_kept | exact ⟨rfl, rfl, rfl⟩

/-- A period start changes of what is kept only the frequency and the dead time in force. -/
theorem kept_periodStart : (periodStart s).kept =
    { s.kept with core := { s.kept.core with pwm := (s.gallery.cfg.pwmKhz, s.gallery.cfg.deadTime) } } := by
  unfold periodStart
  dsimp only
  rw [kept_forEach fun a u => kept_setBridge Bridge.periodStart_kept.1 Bridge.periodStart_kept.2.1
    Bridge.periodStart_kept.2.2]
  rfl

@[simp] theorem Bridge.onTimeEnd_kept {b : Bridge} : b.onTimeEnd.raw = b.raw ∧ b.onTimeEnd.held = b.held
    ∧ b.onTimeEnd.err = b.err := by
  unfold Bridge.onTimeEnd; (repeat' split) <;> exact ⟨rfl, rfl, rfl⟩

@[simp] theorem kept_onTimeEnd {a : AxisId} : (s.setBridge a (s.bridge a).onTimeEnd).kept = s.kept := by
  rw [kept_setBridge] <;> simp

@[simp] theorem kept_deadEnd {a : AxisId} {g : LegId} : (s.setBridge a ((s.bridge a).deadEnd g)).kept = s.kept := by
  rw [kept_setBridge] <;> cases g <;> rfl

/-! ### Invariants of the settings -/

/-- What a property of the settings needs to be an invariant: a reset sets it up and every write of an answer keeps it. -/
structure SettingsLaw (P : Settings → Prop) : Prop where
  reset : P State.reset.kept.core.settings
  write : ∀ s x, P s.kept.core.settings → SettingsWrite s x → P x

variable {P : Settings → Prop}

theorem linkBlind_settings : LinkBlind fun s => P s.kept.core.settings := fun _ _ h => h

theorem SettingsLaw.answersKeep (h : SettingsLaw P) : AnswersKeep fun s => P s.kept.core.settings :=
  fun f s hs => h.write s _ hs (answer_settings f s)

/-- Events other than resets change no stored setting. -/
theorem SettingsLaw.eventsKeep (h : SettingsLaw P) : EventsKeep fun s => P s.kept.core.settings where
  pin s _ := h.reset
  request s _ := h.reset
  started s hs := by simpa using hs
  gap s hs := by simpa using hs
  sample v s hs := by simpa using hs
  debounced l s hs := by simpa using hs
  stuck l s hs := by simpa using hs
  leak i s hs := by simpa using hs
  flash i s hs := by simpa using hs
  cooldown i s hs := by simpa using hs
  rest i s hs := by simpa using hs
  senior i s hs := by simpa using hs
  wait i s hs := by simpa using hs
  interval s hs := by simpa using hs
  jam a s hs := by simpa using hs
  encoder a x s hs := by simpa using hs
  period s hs := by simpa [kept_periodStart] using hs
  onTime a s hs := by simpa using hs
  deadTime a g s hs := by simpa using hs
  supply v s hs := by simpa using hs
  warn s hs := by simpa using hs
  trip s hs := by simpa using hs
  recovery s hs := by simpa using hs
  escalation i s hs := by simpa using hs
  chimeRepeat s hs := by simpa using hs
  chimeNote s hs := by simpa using hs
  tone z s hs := by simpa using hs
  phase s hs := by unfold flashPhase; split <;> exact hs
  wave o s hs := by simpa using hs

theorem kept_enqueue {l : List Instr} :
    (enqueue l s).kept = { s.kept with core := { s.kept.core with pending := (enqueue l s).pending } } := by
  have h := kept_arrange (n := l.length) (l := l) (s := s)
  unfold enqueue
  dsimp only
  rw [← h]
  rfl

theorem kept_tickStart {n : Time} {h : Nat} {l : List Instr} :
    State.kept { s with now := n, lamps := { s.lamps with half := h }, pending := l } =
      { s.kept with core := { s.kept.core with now := n, flash := (s.lamps.lit, h), pending := l } } := rfl

/-- The passing of time changes of what is kept the time base, the flash phase and the queue of commands. -/
theorem kept_idle : ∃ n f l, (idle s).kept =
    { s.kept with core := { s.kept.core with now := n, flash := f, pending := l } } := by
  unfold idle
  split
  · unfold tick
    dsimp only
    rw [kept_enqueue, kept_tickStart]
    exact ⟨_, _, _, rfl⟩
  · rw [kept_enqueue]
    exact ⟨_, _, _, rfl⟩

theorem settings_idle : (idle s).kept.core.settings = s.kept.core.settings := by
  obtain ⟨n, f, l, h⟩ := kept_idle (s := s); rw [h]

theorem brakes_idle : (idle s).kept.brakes = s.kept.brakes := by
  obtain ⟨n, f, l, h⟩ := kept_idle (s := s); rw [h]

theorem counter_idle : (idle s).kept.core.counter = s.kept.core.counter := by
  obtain ⟨n, f, l, h⟩ := kept_idle (s := s); rw [h]

theorem link_idle : (idle s).kept.link = s.kept.link := by
  obtain ⟨n, f, l, h⟩ := kept_idle (s := s); rw [h]

end Sys2Proof.Machine
end

