-- ==== Sys2Proof/Laws/Braking.lean ====
section
/-! SUPPORT. What each operation of the safety monitor does to the axes braked by safety, the guard groups and the supply
monitor's state, as an equation on `Brakes`. -/

namespace Sys2Proof.Machine

open Sys2Proof

variable {s : State}

/-- The judgement of an axis of guard group `g`, read from what is kept. -/
def Brakes.should (b : Brakes) (g : GroupId) : Bool :=
  b.group g ≠ .clear || (b.supply = .tripped || b.supply = .recovering)

theorem shouldBrake_eq {a : AxisId} : s.shouldBrake a = s.kept.brakes.should (s.kept.core.settings.axis a).group := rfl

/-! ### Judging the axes -/

theorem brakes_setAxis {a : AxisId} {x : Axis} : (s.setAxis a x).kept.brakes =
    { s.kept.brakes with braked := fun i => if a = i then x.braked else s.kept.brakes.braked i } := by
  have h j : ((s.setAxisQuiet a x).axis j).braked = if a = j then x.braked else (s.axis j).braked := by
    rw [State.setAxisQuiet_axis]; split <;> rfl
  unfold State.setAxis
  split <;> simp [State.kept, h]

@[simp] theorem Axis.brake_braked {x : Axis} {e : Int} : (x.brake e).braked = true := by
  simp only [Axis.brake] <;> (repeat' split) <;> simp

theorem brakes_brakeAxis {a : AxisId} : (brakeAxis a s).kept.brakes =
    { s.kept.brakes with braked := fun i => if a = i then true else s.kept.brakes.braked i } := by
  simp only [brakeAxis] <;> split <;> simp [brakes_setAxis]

theorem brakes_freeAxis {a : AxisId} : (freeAxis a s).kept.brakes =
    { s.kept.brakes with braked := fun i => if a = i then false else s.kept.brakes.braked i } := by
  simp only [freeAxis] <;> split <;> simp [brakes_setAxis]

/-- The judgement of one axis sets its flag as the rule says and no other (R122). -/
theorem brakes_judgeBraked {a : AxisId} : (judgeBraked a s).kept.brakes =
    { s.kept.brakes with braked := fun i => if a = i then s.shouldBrake a else s.kept.brakes.braked i } := by
  unfold judgeBraked
  split
  · rename_i h
    rw [h]
    have : (fun i => if a = i then (s.axis a).braked else s.kept.brakes.braked i) = s.kept.brakes.braked := by
      funext i; split
      · subst_vars; rfl
      · rfl
    rw [this]
  · split
    · rename_i h; rw [brakes_brakeAxis, h]
    · rename_i h; rw [brakes_freeAxis]; simp [h]

/-- The axes of a list judged, where the condition on their group holds. -/
theorem brakes_judgeList {p : GroupId → Bool} (l : List AxisId) (s : State) :
    (forEach l (fun a t => if p (t.axis a).cfg.group then judgeBraked a t else t) s).kept.brakes =
    { s.kept.brakes with braked := fun i => if i ∈ l ∧ p (s.axis i).cfg.group then s.shouldBrake i else s.kept.brakes.braked i } := by
  induction l generalizing s with
  | nil => simp [forEach]
  | cons a l ih =>
    have hc : (forEach (a :: l) (fun a t => if p (t.axis a).cfg.group then judgeBraked a t else t) s) =
      forEach l (fun a t => if p (t.axis a).cfg.group then judgeBraked a t else t)
        (if p (s.axis a).cfg.group then judgeBraked a s else s) := rfl
    rw [hc, ih]
    split
    · rename_i hp
      simp only [shouldBrake_eq, kept_axis, core_judgeBraked, brakes_judgeBraked, Brakes.should, Brakes.mk.injEq, and_true]
      funext i
      by_cases hi : a = i
      · subst hi; simp [kept_axis] at hp; simp [hp]
      · have hi' : i ≠ a := fun h => hi h.symm
        simp [hi, hi']
    · rename_i hp
      simp only [Brakes.mk.injEq, and_true]
      funext i
      by_cases hi : i = a
      · subst hi; simp [hp]
      · simp [hi]

/-- The axes of a set of groups judged: their flags are as the rule says, the others as they were (R122). -/
theorem brakes_judgeGroups {p : GroupId → Bool} : (judgeGroups p s).kept.brakes =
    { s.kept.brakes with braked := fun i => if p (s.axis i).cfg.group then s.shouldBrake i else s.kept.brakes.braked i } := by
  unfold judgeGroups
  rw [brakes_judgeList]
  simp [axisIds]

/-! ### Guard groups -/

theorem brakes_setGroup {g : GroupId} {x : GuardGroup} : (s.setGroup g x).kept.brakes =
    { s.kept.brakes with
      group := fun i => if g = i then x.state else s.kept.brakes.group i
      lines := fun i => if g = i then x.brokenLines else s.kept.brakes.lines i } := by
  have h j : ((s.setGroup g x).group j).state = if g = j then x.state else (s.group j).state := by
    rw [State.setGroup_group]; split <;> rfl
  have h2 j : ((s.setGroup g x).group j).brokenLines = if g = j then x.brokenLines else (s.group j).brokenLines := by
    rw [State.setGroup_group]; split <;> rfl
  simp [State.kept, h, h2]

/-- A break makes its group BROKEN with the line in its broken set, and brakes the group's axes (R123, R124). -/
theorem brakes_breakLine {g : GroupId} {l : LineId} : (breakLine g l s).kept.brakes =
    { braked := fun i => if (s.axis i).cfg.group = g then true else s.kept.brakes.braked i
      group := fun i => if g = i then .broken else s.kept.brakes.group i
      lines := fun i => if g = i then addBit (s.group g).brokenLines l.val else s.kept.brakes.lines i
      supply := s.kept.brakes.supply } := by
  have hb : ∀ u : State, u.kept.core = s.kept.core → u.kept.brakes = (s.setGroup g { s.group g with
        state := .broken, brokenLines := addBit (s.group g).brokenLines l.val }).kept.brakes →
      (judgeGroups (fun h => h = g) u).kept.brakes =
    { braked := fun i => if (s.axis i).cfg.group = g then true else s.kept.brakes.braked i
      group := fun i => if g = i then .broken else s.kept.brakes.group i
      lines := fun i => if g = i then addBit (s.group g).brokenLines l.val else s.kept.brakes.lines i
      supply := s.kept.brakes.supply } := by
    intro u hc hu
    rw [brakes_judgeGroups]
    simp only [shouldBrake_eq, kept_axis, hc, hu, brakes_setGroup, Brakes.should, Brakes.mk.injEq, and_true,
      decide_eq_true_eq]
    funext i
    split <;> simp_all
  unfold breakLine
  dsimp only
  rw [kept_raiseAlert]
  apply hb <;> rw [kept_leaveWaitingAll, kept_haltStations] <;> split <;> simp

/-- A restore takes its line out of the broken set; the last one makes the group UNARMED (R125). -/
theorem brakes_restoreLine {g : GroupId} {l : LineId} : (restoreLine g l s).kept.brakes =
    if hasBit (s.group g).brokenLines l.val then
      { s.kept.brakes with
        group := fun i => if g = i then
          (if delBit (s.group g).brokenLines l.val = 0 then .unarmed else (s.group g).state) else s.kept.brakes.group i
        lines := fun i => if g = i then delBit (s.group g).brokenLines l.val else s.kept.brakes.lines i }
    else s.kept.brakes := by
  simp only [restoreLine]
  split
  · split
    · rename_i h
      simp only [kept_endAlert, kept_noticeGuard, brakes_setGroup, h]
    · simp only [brakes_setGroup]
  · rfl

/-- The groups of a list made CLEAR. -/
theorem brakes_armList (l : List GroupId) (s : State) :
    (forEach l (fun g u => noticeGuard g (u.setGroup g { u.group g with state := .clear })) s).kept.brakes =
    { s.kept.brakes with group := fun i => if i ∈ l then .clear else s.kept.brakes.group i } := by
  induction l generalizing s with
  | nil => simp [forEach]
  | cons g l ih =>
    have hc : forEach (g :: l) (fun g u => noticeGuard g (u.setGroup g { u.group g with state := .clear })) s =
      forEach l (fun g u => noticeGuard g (u.setGroup g { u.group g with state := .clear }))
        (noticeGuard g (s.setGroup g { s.group g with state := .clear })) := rfl
    rw [hc, ih]
    simp only [kept_noticeGuard, brakes_setGroup, Brakes.mk.injEq, true_and, and_true]
    constructor
    · funext i
      by_cases h : i = g
      · subst h; simp
      · have h' : g ≠ i := fun e => h e.symm
        simp [h, h']
    · funext i; split
      · subst_vars; rfl
      · rfl

/-- Arming a zone makes its UNARMED groups CLEAR and judges their axes (R127). -/
theorem brakes_armZone {z : ZoneSel} : (armZone z s).kept.brakes =
    { s.kept.brakes with
      braked := fun i => if s.armable z (s.axis i).cfg.group then s.supplyDown else s.kept.brakes.braked i
      group := fun i => if s.armable z i then .clear else s.kept.brakes.group i } := by
  have hk : (forEach (groupIds.filter (s.armable z))
      (fun g u => noticeGuard g (u.setGroup g { u.group g with state := .clear })) s).kept.core = s.kept.core :=
    same_forEach (fun t => t.kept.core) fun g t => by simp
  simp only [armZone, kept_rearmEvent, brakes_judgeGroups, shouldBrake_eq, kept_axis, hk, brakes_armList]
  clear hk
  simp only [Brakes.mk.injEq, and_true, List.contains_iff_mem, groupIds, List.mem_filter, List.mem_finRange, true_and]
  funext i
  by_cases h : s.armable z (s.kept.core.settings.axis i).group = true <;> simp [h, Brakes.should, State.supplyDown] <;> rfl

/-! ### The supply monitor -/

theorem brakes_setSupplyState {u : Supply} : (setSupplyState u s).kept.brakes = { s.kept.brakes with supply := u.state } := by
  simp [setSupplyState]; rfl

@[simp] theorem brakes_enterLow : (enterLow s).kept.brakes = { s.kept.brakes with supply := .low } := by
  simp [enterLow, brakes_setSupplyState]

@[simp] theorem brakes_leaveLow : (leaveLow s).kept.brakes = { s.kept.brakes with supply := .normal } := by
  simp [leaveLow, brakes_setSupplyState]

/-- A trip brakes every axis (R136). -/
theorem brakes_enterTripped : (enterTripped s).kept.brakes =
    { s.kept.brakes with braked := fun _ => true, supply := .tripped } := by
  have hb : ∀ u : State, u.kept.brakes = { s.kept.brakes with supply := .tripped } →
      (judgeGroups (fun _ => true) u).kept.brakes = { s.kept.brakes with braked := fun _ => true, supply := .tripped } := by
    intro u hu
    rw [brakes_judgeGroups]
    simp [shouldBrake_eq, hu, Brakes.should]
  unfold enterTripped
  dsimp only
  rw [kept_raiseAlert]
  apply hb
  rw [kept_leaveWaitingAll, kept_haltStations]
  split <;> simp [brakes_setSupplyState]

/-- The end of a recovery frees the axes whose group is CLEAR (R137). -/
theorem brakes_supplyRecovered : (supplyRecovered s).kept.brakes =
    { s.kept.brakes with
      braked := fun i => !decide (s.kept.brakes.group (s.axis i).cfg.group = .clear)
      supply := .normal } := by
  simp [supplyRecovered, brakes_judgeGroups, shouldBrake_eq, brakes_setSupplyState, Brakes.should, kept_axis]
  rfl

end Sys2Proof.Machine
end

