-- ==== Sys2Proof/Laws/DueOrder.lean ====
section
/-! SUPPORT. The order of the commands that fall due at one millisecond: a rearrangement in which one kind keeps its order holds
the same commands, that kind in its old order and every other command where the rearrangement put it (R48, R150; log 5). -/

namespace Sys2Proof.Machine

open Sys2Proof

/-- As many commands of the kind as there are places fill them exactly. -/
theorem fillPlaces_kind {p : Instr → Bool} {q m : List Instr} (hm : ∀ c ∈ m, p c = true) (hl : m.length = (q.filter p).length) :
    (fillPlaces p m q).filter p = m := by
  induction q generalizing m with
  | nil => cases m with
    | nil => rfl
    | cons d m => simp at hl
  | cons c q ih =>
    cases hc : p c with
    | true =>
      cases m with
      | nil => simp [hc] at hl
      | cons d m =>
        have hd := hm d (by simp)
        simp only [fillPlaces, hc, if_true, List.filter_cons, hd]
        rw [ih (fun c h => hm c (by simp [h])) (by simpa [hc] using hl)]
    | false => simpa [fillPlaces, hc] using ih hm (by simpa [hc] using hl)

/-- The commands of a kind that shares none with the kind filled in stay where they are. -/
theorem fillPlaces_other {p r : Instr → Bool} {q m : List Instr} (hr : ∀ c, p c = true → r c = false) (hm : ∀ c ∈ m, p c = true) :
    (fillPlaces p m q).filter r = q.filter r := by
  induction q generalizing m with
  | nil => simp [fillPlaces]
  | cons c q ih =>
    cases hc : p c with
    | true =>
      cases m with
      | nil => simp [fillPlaces, hc, hr c hc, ih hm]
      | cons d m =>
        have hm' : ∀ c ∈ m, p c = true := fun c h => hm c (List.mem_cons_of_mem d h)
        simp [fillPlaces, hc, hr c hc, hr d (hm d (by simp)), ih hm']
    | false => simp [fillPlaces, hc, List.filter_cons, ih hm]

/-- The kind keeps the order of `l`. -/
theorem keepOrder_kind {p : Instr → Bool} {l q : List Instr} (h : q.Perm l) : (keepOrder p l q).filter p = l.filter p :=
  fillPlaces_kind (by simp) (h.filter p).length_eq.symm

/-- Every other kind keeps the order of `q`. -/
theorem keepOrder_other {p r : Instr → Bool} {l q : List Instr} (hr : ∀ c, p c = true → r c = false) :
    (keepOrder p l q).filter r = q.filter r := fillPlaces_other hr (by simp)

/-- No command is lost or added. -/
theorem keepOrder_perm {p : Instr → Bool} {l q : List Instr} (h : q.Perm l) : (keepOrder p l q).Perm l := by
  have hk := keepOrder_kind (p := p) h
  have ho : (keepOrder p l q).filter (fun c => !p c) = q.filter (fun c => !p c) := keepOrder_other fun c hc => by simp [hc]
  have split (x : List Instr) : (x.filter p ++ x.filter fun c => !p c).Perm x := List.filter_append_perm p x
  have := split (keepOrder p l q)
  rw [hk, ho] at this
  exact this.symm.trans (((h.filter fun c => !p c).append_left _).trans (split l))

end Sys2Proof.Machine
end

