-- ==== Sys2Proof/Tests/Slice0.lean ====
section
/-! SUPPORT. The tests: ill-formed commands that the check refuses, one step each against values read from the spec's worked
sequences and tables, and for each statement with hypotheses a concrete state and operands that meet them, clause by clause. -/

namespace Sys2Proof.Tests

set_option Elab.async false

open Sys2Proof Sys2Proof.Machine Sys2Proof.Claims Sys2Proof.Safety

/-! ### Well-formedness -/

theorem test_payload_of_61_refused : (Instr.ident 0 (List.replicate 61 0)).wellFormed = false := by decide
theorem test_payload_of_60_accepted : (Instr.ident 0 (List.replicate 60 0)).wellFormed = true := by decide
theorem test_unknownType_with_a_request_code_refused : (Instr.unknownType 0x01 0 []).wellFormed = false := by decide
theorem test_unknownType_accepted : (Instr.unknownType 0x06 0 []).wellFormed = true := by decide

/-! ### States for the tests -/

/-- The state a command leads to, and the state itself where there is none. -/
def run (c : Instr) (s : State) : State := match exec c s with
  | .next t => t
  | .fault _ | .refused _ => s

/-- `Steady` as one test. -/
def steady (s : State) : Bool := decide (Steady s)

/-- `DrainsOn` as one test. -/
def drainsOn (s : State) (st : StationId) : Bool := decide (DrainsOn s st)

theorem steady_iff (s : State) : steady s = true ↔ Steady s := decide_eq_true_iff

theorem drainsOn_iff (s : State) (st : StationId) : drainsOn s st = true ↔ DrainsOn s st := decide_eq_true_iff

/-- The payload of the newest reply. -/
def answerOf (s : State) : List Byte := match s.link.replies.getLast? with
  | some r => r.frame.payload
  | none => []

/-- The gallery OPEN with a budget of 40 units, all groups CLEAR, and the safety settings fixed. -/
def openS : State :=
  let s : State := { State.reset with gallery := { mode := .openMode, safetyFixed := true, cfg := { capacity := 40 } } }
  groupIds.foldl (fun s g => s.setGroup g { state := .clear }) s

/-- An enabled axis at rest at 0, homed and free. -/
def restAxis : Axis :=
  { cfg := { enabled := true, ratedDraw := 3, softMin := -1000, softMax := 1000 }, state := .idle, homed := true, braked := false }

/-- Station ST0, with axis AX0 and a window of eight steps, in a given state. -/
def inState (x : StState) : State :=
  ((openS.setAxisQuiet 0 restAxis).setBridge 0 { out := .brake }).setStation 0
    { cfg := { enabled := true, axes := 1, sizeCode := 3, cooldown := 10, ready := some 1, wait := some 2, group := [3, 4] },
      state := x }

/-- Station ST0 playing, its axis owned. -/
def playing (p : Player) : State :=
  let s := inState .running
  (s.setAxisQuiet 0 { restAxis with owner := .station 0 }).setStation 0 { s.station 0 with player := p }

/-- An axis of the test station moving. -/
def movingAxis : Axis := { restAxis with owner := .station 0, state := .moving, vel := 5, target := some 100 }

/-- The reset state with one axis given. -/
def withAxis (x : Axis) : State := (State.reset.setAxisQuiet 0 x).setGroup 0 { state := .clear }

/-- The reset state with one line given. -/
def withLine (x : Line) : State := State.reset.setLine 8 x

/-- A line whose count is full, in a role and at a raw level. -/
def dueLine (r : LineRole) (raw : Bool) : Line :=
  { cfg := { role := r, debounce := 20 }, raw := raw, debounced := !raw, count := 20, fresh := false }

/-- The reset state while a reply with an effect is being sent. -/
def sending (e : ReplyEffect) : State :=
  { State.reset with link := { State.reset.link with
      tx := .reply [1], replies := [⟨⟨0x84, 1, [0]⟩, 0, e⟩], startedDue := none } }

/-- An alert entry. -/
def entry (k : AlertKind) (src : AlertSource) (sev : Severity) : Alert :=
  { kind := k, source := src, zone := .zone 0, base := sev, severity := sev, acked := false, active := true, count := 1,
    first := 0, last := 0, deadline := none }

/-- A table filled with entries of one severity. -/
def fullTable (sev : Severity) : State :=
  slotIds.foldl (fun s i => s.setSlot i (some (entry .axisJam (.axis 0) sev))) State.reset

/-! ### Values of the spec's worked cases and tables -/

/-- Worked case: a short move (acc 64, effective vmax 512, D 2,560 from rest). -/
def shortMove : Nat → Nat → Nat → List Nat
  | 0, _, _ => []
  | n + 1, v, d => let w := normalVel 64 512 d v; w :: shortMove n w (d - w)

theorem test_normalVel_short_move :
    shortMove 12 0 2560 = [64, 128, 192, 256, 320, 384, 320, 256, 256, 192, 128, 64] := by decide +kernel

/-- Worked case: a derate in mid-move. -/
theorem test_normalVel_derate : shortMove 1 512 1000000 = [512] ∧ normalVel 64 256 1000000 512 = 448
    ∧ normalVel 64 256 1000000 320 = 256 ∧ normalVel 64 256 1000000 256 = 256 := by decide +kernel

/-- Worked case: a target set behind, intervals 1 and 4. -/
def backward (v : Nat) (cmd : Int) : Axis :=
  { restAxis with cfg := { restAxis.cfg with acc := 64, vmax := 512, softMax := 2000 }, state := .moving, owner := .gallery,
                  vel := v, cmd := cmd, target := some 990 }
theorem test_turn_reversal : ((backward 256 256000).turn 100 1000).axis.cmd = 256192
    ∧ ((backward 256 256000).turn 100 1000).axis.vel = 192 := by decide +kernel
theorem test_turn_flips_at_zero : ((backward 64 256384).turn 100 1000).axis.cmd = 256384
    ∧ ((backward 64 256384).turn 100 1000).axis.negative = true := by decide +kernel

/-- Worked duty (R94): E 5, Kp 40, Kf 32, v′ 384 gives +24; the mirror image gives −24. -/
theorem test_profileInterval_following_error :
    (((run .profileInterval ((withAxis { restAxis with
        owner := .gallery, cfg := { restAxis.cfg with kp := 40, dutymax := 1000, softMax := 2000 }, cmd := 1205 * 256 }).setBridge 0
        { out := .brake, raw := 1200 })).bridge 0).buffered = 12) := by decide +kernel

/-- R51, R95: two jams that one interval left due are taken by the next in either order, as the slots of their alerts show
(log 49). -/
theorem test_profileInterval_two_jams :
    let stuck : Axis := { restAxis with owner := .gallery, feTimer := some restAxis.cfg.feTime }
    let s := (withAxis stuck).setAxisQuiet 1 stuck
    let first (n : Nat) := ((run .profileInterval { s with arb := [n] }).slot 0).map fun e => e.source
    first 0 = some (.axis 0) ∧ first 1 = some (.axis 1) := by decide +kernel

/-- Worked sequence: one request framed. Its six bytes make the frame QUERY_AXIS, TAG 0x21, payload 03. -/
theorem test_frame_of_worked_request : (Frame.mk 0x31 0x21 [0x03]).encode = [0xC5, 3, 0x31, 0x21, 3, 0xA8] := by decide +kernel
theorem test_rxByte_completes_worked_request :
    (feed .hunt [0xC5, 3, 0x31, 0x21, 3, 0xA8]).2 = [⟨0x31, 0x21, [3]⟩] := by decide +kernel
theorem test_rxByte_hunts_for_sync : (run (.rxByte 0xC5) State.reset).link.framer = .length := by decide +kernel
theorem test_gapExpiry_discards_the_frame :
    (run .gapExpiry { State.reset with link := { State.reset.link with framer := .body 3 [0x31], gapAt := some 0 } }).link.framer
      = .hunt := by decide +kernel
theorem test_framingError_discards_the_frame :
    (run .framingError { State.reset with link := { State.reset.link with framer := .body 3 [0x31] } }).link.framer = .hunt := by
  decide +kernel
theorem test_linkBreak_discards_the_frame :
    (run .linkBreak { State.reset with link := { State.reset.link with framer := .length } }).link.framer = .hunt := by
  decide +kernel

/-- R182: vendor 0x57, part 0x0640, revision 3, then the counts. -/
theorem test_ident_reply : answerOf (run (.ident 1 []) State.reset)
    = [0, 0x57, 0x40, 0x06, 3, 40, 24, 8, 12, 6, 0x00, 0x04, 8, 24] := by decide +kernel
theorem test_setLink_range : answerOf (run (.setLink 1 [7, 10]) State.reset) = [3]
    ∧ answerOf (run (.setLink 1 [6, 100]) State.reset) = [0] := by decide +kernel
theorem test_unknownType_reply : answerOf (run (.unknownType 0x06 1 []) State.reset) = [1] := by decide +kernel
theorem test_status_length : answerOf (run (.status 1 [0]) State.reset) = [2]
    ∧ (answerOf (run (.status 1 []) State.reset)).length = 18 := by decide +kernel
theorem test_started_notice : (run .started State.reset).link.notices = [⟨0x40, 0, [0, 4, 3]⟩] := by decide +kernel
theorem test_resetReq_holds_the_next : (run (.ident 2 []) (run (.resetReq 1 []) State.reset)).link.heldFrame
    = some ⟨0x01, 2, []⟩ := by decide +kernel

/-- Worked alignment: code 5 with base 70 stores 64. -/
theorem test_cfgStation_aligns : ((run (.cfgStation 1 (stationBytes 3 { enabled := true, sizeCode := 5, windowBase := 70 }))
    State.reset).station 3).cfg.windowBase = 64 := by decide +kernel
theorem test_cfgGallery_stores : (run (.cfgGallery 1 (galleryBytes { capacity := 250, deadTime := 16 })) State.reset).gallery.cfg
    = { capacity := 250, deadTime := 16 } := by decide +kernel
theorem test_cfgGallery_capacity_251 : answerOf (run (.cfgGallery 1 (galleryBytes { capacity := 251 })) State.reset) = [3] := by
  decide +kernel
theorem test_cfgLine_starts_fresh : ((run (.cfgLine 1 [8, 2, 1, 10, 0, 3, 5]) State.reset).line 8).cfg
    = { role := .guard 5, activeLow := true, debounce := 10, stuckLimit := 0, zone := 3 } := by decide +kernel
theorem test_cfgAxis_without_home_line : ((run (.cfgAxis 1 (axisBytes 2 { enabled := true, softMin := 10, softMax := 50 }))
    State.reset).axis 2).cmd = 2560 := by decide +kernel
theorem test_cfgGuard_zone : ((run (.cfgGuard 1 [5, 3]) State.reset).group 5).zone = 3 := by decide +kernel
theorem test_cfgSupply_stores : (run (.cfgSupply 1 (supplyBytes { warn := 500, trip := 300, hyst := 20 })) State.reset).safety.supply.cfg
    = { warn := 500, trip := 300, hyst := 20 } := by decide +kernel
theorem test_stepWrite_stores : (run (.stepWrite 1 ([0xFF, 3, 1] ++ [2, 5] ++ List.replicate 10 0)) State.reset).stepRecord 1023
    = [2, 5] ++ List.replicate 10 0 := by decide +kernel
theorem test_stepWrite_past_the_store :
    answerOf (run (.stepWrite 1 ([0xFF, 3, 2] ++ List.replicate 24 0)) State.reset) = [3] := by decide +kernel
theorem test_stepRead_reads_END : answerOf (run (.stepRead 1 [0, 0, 1]) State.reset) = List.replicate 13 0 := by decide +kernel

/-- R2, R3: with nothing to home the gallery is OPEN in the same request, a free station READY. -/
def standby : State :=
  (((withAxis restAxis).setGroup 0 {}).setStation 0
    { cfg := { enabled := true, axes := 1, sizeCode := 3 }, state := .standby }).setGallery { cfg := { capacity := 40 } }
theorem test_openReq_opens : (run (.openReq 1 []) standby).gallery.mode = .openMode
    ∧ ((run (.openReq 1 []) standby).station 0).state = .ready := by decide +kernel
theorem test_closeReq_closes : (run (.closeReq 1 []) (inState .ready)).gallery.mode = .closed
    ∧ ((run (.closeReq 1 []) (inState .ready)).station 0).state = .standby := by decide +kernel

/-- R40, R49, R52, R66: the pass admits the entry, whose show waits at its first step. -/
def withShow (s : State) : State := { s with store := [⟨0, 2⟩, ⟨1, 100⟩, ⟨12, 6⟩, ⟨13, 3⟩] }
theorem test_play_admits : ((run (.play 1 [0]) (withShow (inState .ready))).station 0).player.wait = .time
    ∧ ((run (.play 1 [0]) (withShow (inState .ready))).axis 0).owner = .station 0 := by decide +kernel
theorem test_cancel_frees : ((run (.cancel 1 [0]) (inState .queued)).station 0).state = .ready := by decide +kernel
theorem test_hold_pauses : ((run (.hold 1 [0]) (playing { state := .playing, wait := .time, deadline := some 40 })).station 0).player.remaining
    = 40 := by decide +kernel
theorem test_release_resumes :
    let s := playing { state := .held, wait := .time, remaining := 40 }
    ((run (.release 1 [0]) (s.setStation 0 { s.station 0 with state := .paused })).station 0).player.deadline = some 40 := by
  decide +kernel
theorem test_stop_cools_down : ((run (.stop 1 [0]) (playing { state := .playing, wait := .time, deadline := some 40 })).station 0).state
    = .cooldown := by decide +kernel

/-- Worked sequence: a hammered button (trip level 4, leak interval 1,000 ms). -/
def hammered (tally : Nat) (leakAt : Option Time) : State :=
  let s := inState .running
  (s.setStation 0 { s.station 0 with cfg := { (s.station 0).cfg with tripLevel := 4 }, tally := tally, leakAt := leakAt }).setLine 8
    (dueLine (.demand 0) true)
theorem test_lineDebounced_trips : ((run (.lineDebounced 8) (hammered 3 (some 1000))).station 0).tally = 0
    ∧ ((run (.lineDebounced 8) (hammered 3 (some 1000))).station 0).restOwed = true := by decide +kernel
theorem test_lineDebounced_counts : ((run (.lineDebounced 8) (hammered 0 none)).station 0).leakAt = some 1000 := by decide +kernel
theorem test_tallyLeakExpiry_leaks : ((run (.tallyLeakExpiry 0) (hammered 1 (some 0))).station 0).tally = 0
    ∧ ((run (.tallyLeakExpiry 0) (hammered 1 (some 0))).station 0).leakAt = none := by decide +kernel
theorem test_cooldownExpiry_rests :
    let s := inState .cooldown
    let t := run (.cooldownExpiry 0) (s.setStation 0 { s.station 0 with restOwed := true, cooldownAt := some 0 })
    (t.station 0).state = .resting ∧ (t.station 0).restAt = some 60000 ∧ (t.station 0).restOwed = false := by decide +kernel
theorem test_restExpiry_returns :
    let s := inState .resting
    ((run (.restExpiry 0) (s.setStation 0 { s.station 0 with restAt := some 0 })).station 0).state = .ready := by decide +kernel
theorem test_waitFlashExpiry_darkens :
    let s := inState .running
    (run (.waitFlashExpiry 0) ((s.setStation 0 { s.station 0 with flashAt := some 0 }).setLamp 2 .flash)).lamp 2 = .off := by
  decide +kernel
theorem test_entryBecomesSenior :
    let s := inState .queued
    let t := run (.entryBecomesSenior 0) { s with
      now := 5000, gallery := { s.gallery with cfg := { s.gallery.cfg with starve := 5 } },
      admission := { s.admission with hold := true, queue := [⟨0, .visitor, 0, 1, false⟩] } }
    t.admission.queue = [⟨0, .visitor, 0, 1, true⟩] := by decide +kernel
/-- R66, R72, R14: the next step is an END. -/
theorem test_waitTimeExpiry_ends_the_show :
    ((run (.waitTimeExpiry 0) (playing { state := .playing, wait := .time, deadline := some 0 })).station 0).state = .cooldown := by
  decide +kernel

/-- Worked sequence: a bouncing button, samples 124 and 103. -/
theorem test_inputSample_counts : ((run (.inputSample 0) (withLine
    { cfg := { role := .demand 2, activeLow := true }, fresh := false, count := 18 })).line 8).count = 19 := by decide +kernel
theorem test_inputSample_bounce : ((run (.inputSample 0x100) (withLine
    { cfg := { role := .demand 2, activeLow := true }, fresh := false, raw := true, count := 3 })).line 8).count = 0 := by
  decide +kernel
theorem test_stuckTimerExpiry : ((run (.stuckTimerExpiry 8) (withLine { cfg := { role := .key }, stuckAt := some 0 })).line 8).stuck
    = true := by decide +kernel

/-! Worked sequence: an encoder cable laid beside a motor lead, and the table of R114. -/
def encoderAt (err : Nat) : State := (withAxis restAxis).setBridge 0 { out := .brake, held := some (false, false), err := err }
theorem test_encoderTransition_counts_up : ((run (.encoderTransition 0 true false) (encoderAt 9)).bridge 0).raw = 1
    ∧ ((run (.encoderTransition 0 true false) (encoderAt 9)).bridge 0).err = 8 := by decide +kernel
theorem test_encoderTransition_fails : ((run (.encoderTransition 0 true true) { encoderAt 252 with arb := [0, 0, 0] }).bridge 0).err = 255
    ∧ ((run (.encoderTransition 0 true true) { encoderAt 252 with arb := [0, 0, 0] }).axis 0).faultKind = some .encoder := by
  decide +kernel

/-! Worked sequence: a grant, a move and a hand in the case; the switches of R110 and R111. -/
def driven (b : Bridge) : State := (withAxis { restAxis with owner := .gallery }).setBridge 0 b
theorem test_pwmPeriodStart_loads : ((run .pwmPeriodStart (driven { out := .brake, first := .low, second := .low, buffered := 24 })).bridge 0).loaded
    = 24 := by decide +kernel
theorem test_pwmOnTimeEnd_opens_the_high_side :
    ((run (.pwmOnTimeEnd 0) (driven { out := .drive, first := .high, second := .low, loaded := 61 })).bridge 0).first = .deadLow := by
  decide +kernel
theorem test_deadTimeEnd_closes_the_low_side :
    ((run (.deadTimeEnd 0 .first) (driven { out := .drive, first := .deadLow, second := .low, loaded := 61 })).bridge 0).first = .low := by
  decide +kernel

theorem test_axisMove_clamps : ((run (.axisMove 1 [0, 0xE8, 3, 0, 0, 1]) (withAxis { restAxis with cmd := 256 } |>.setGallery
    { cfg := { capacity := 3 } })).axis 0).target = some 1000 := by decide +kernel
/-- Worked sequence: homing an axis that starts on its switch (first row: target 51,200). -/
theorem test_axisHome_starts_away :
    let x : Axis := { restAxis with
      cfg := { restAxis.cfg with softMin := -100, softMax := 40000, travel := 50000, homingSpeed := 128, acc := 64 },
      state := .unhomed, homed := false, cmd := 1200 * 256 }
    let s := ((withAxis x).setLine 8 { cfg := { role := .home 0 }, raw := true, debounced := true, fresh := false }).setGallery
      { cfg := { capacity := 3 } }
    ((run (.axisHome 1 [0]) s).axis 0).target = some 51200 ∧ ((run (.axisHome 1 [0]) s).axis 0).phase = some .away := by
  decide +kernel
theorem test_axisClear_ends_the_fault :
    ((run (.axisClear 1 [0]) (withAxis { restAxis with state := .faulted, faultKind := some .jam })).axis 0).state = .idle := by
  decide +kernel
theorem test_followingErrorJam_faults :
    let t := run (.followingErrorJam 0) (withAxis { movingAxis with owner := .gallery, feTimer := some 200 })
    (t.axis 0).state = .faulted ∧ (t.axis 0).owner = .none := by decide +kernel
theorem test_rearm_arms : ((run (.rearm 1 [4]) State.reset).group 5).state = .clear := by decide +kernel

/-! The supply monitor (R133, R134, R138). -/
def supplyIn (x : SupplyState) (w t : Nat) : State := State.reset.setSupply
  { cfg := { warn := 500, trip := 300, hyst := 20, warnConfirm := 8, tripConfirm := 2 }, state := x, warnCount := w, tripCount := t,
    recoveryAt := if x = .recovering then some 0 else none }
theorem test_supplySample_counts : (run (.supplySample 499) (supplyIn .normal 3 1)).safety.supply.warnCount = 4
    ∧ (run (.supplySample 499) (supplyIn .normal 3 1)).safety.supply.tripCount = 0 := by decide +kernel
theorem test_supplySample_recovers : (run (.supplySample 520) (supplyIn .tripped 0 0)).safety.supply.recoveryAt = some 1000 := by
  decide +kernel
theorem test_warnConfirm_derates : (run .warnConfirm (supplyIn .normal 8 0)).axes.derate = 50
    ∧ (run .warnConfirm (supplyIn .normal 8 0)).admission.hold = true := by decide +kernel
theorem test_tripConfirm_trips : (run .tripConfirm (supplyIn .low 8 2)).safety.supply.state = .tripped
    ∧ (run .tripConfirm (supplyIn .low 8 2)).axes.derate = 100 := by decide +kernel
theorem test_recoveryTimerExpiry_ends : (run .recoveryTimerExpiry (supplyIn .recovering 0 0)).safety.supply.state = .normal := by
  decide +kernel

/-! Alerts, lamps and sound. -/
theorem test_alertCall_takes_slot_0 : (run (.alertCall 1 [3, 2, 4]) State.reset).slot 0
    = some { entry .hostCall (.host 3) .urgent with zone := .all, active := false } := by decide +kernel
theorem test_alertCall_full : answerOf (run (.alertCall 1 [3, 1, 4]) (fullTable .urgent)) = [9]
    ∧ (run (.alertCall 1 [3, 1, 4]) (fullTable .urgent)).alerts.overflow = true := by decide +kernel
theorem test_alertAck_all : (run (.alertAck 1 [2, 0]) (fullTable .attend)).slot 23
    = some { entry .axisJam (.axis 0) .attend with acked := true } := by decide +kernel
theorem test_alertMask_masks : (run (.alertMask 1 [1, 0, 0, 1, 0]) State.reset).alerts.masks = 9 := by decide +kernel
theorem test_alertClearOverflow : (run (.alertClearOverflow 1 []) { State.reset with alerts := { overflow := true } }).alerts.overflow
    = false := by decide +kernel
theorem test_escalationDeadlineExpiry :
    (run (.escalationDeadlineExpiry 0) (State.reset.setSlot 0 (some { entry .axisJam (.axis 0) .attend with deadline := some 0 }))).slot 0
      = some { entry .axisJam (.axis 0) .attend with severity := .urgent } := by decide +kernel
theorem test_chimeRepeatExpiry_plays :
    (run .chimeRepeatExpiry { State.reset with alerts := { overflow := true, chimeRepeatAt := some 0 } }).sound.chime.state
      = .firstNote := by decide +kernel
theorem test_chimeNoteEnd : (run .chimeNoteEnd (State.reset.setChime { state := .firstNote, endTime := some 0 })).sound.chime.state
    = .secondNote := by decide +kernel
/-- R149: 880 Hz, then 660 Hz, each at amplitude 15 of 15. -/
theorem test_chime_notes : ChimeState.pitch .firstNote = some 880 ∧ ChimeState.pitch .secondNote = some 660
    ∧ ({ state := .firstNote, endTime := some 600, level := true } : Chime).output = 15 := by decide +kernel
theorem test_toneEnd_silences : ((run (.toneEnd 1) (State.reset.setTone 1 { playing := true, level := true })).tone 1).playing = false := by
  decide +kernel
theorem test_toneWaveHalfPeriod : ((run (.toneWaveHalfPeriod (.zone 1)) (State.reset.setTone 1 { playing := true, effective := 3 })).tone 1).level
    = true := by decide +kernel
theorem test_flashPhase : (run .flashPhase { State.reset with lamps := { State.reset.lamps with half := 250 } }).lamps.lit = false := by
  decide +kernel
theorem test_lampSet_sets : (run (.lampSet 1 [2, 5, 1, 23, 2]) State.reset).lamp 23 = .flash := by decide +kernel
theorem test_tone_scales : ((run (.tone 1 [1, 16, 0, 15, 1, 0]) State.reset).tone 1).effective = 8 := by decide +kernel
theorem test_frameSent_frees : (run .frameSent (sending (.setLink 2 50))).link.rate = 2
    ∧ (run .frameSent (sending .reset)).link.startedDue = some .request := by decide +kernel

/-! Queries: the lengths their layouts give. -/
theorem test_query_lengths :
    (answerOf (run (.queryStation 1 [0]) State.reset)).length = 36 ∧ (answerOf (run (.queryAxis 1 [0, 0]) State.reset)).length = 39
    ∧ (answerOf (run (.queryGallery 1 []) State.reset)).length = 14 := by decide +kernel
theorem test_queryLines_takes : ((run (.queryLines 1 [8, 1, 1]) (withLine { pressed := true })).line 8).pressed = false := by
  decide +kernel
theorem test_queryQueue_past_the_end : answerOf (run (.queryQueue 1 [7, 2]) State.reset) = [3] := by decide +kernel
theorem test_queryAlerts_empty_slot : (answerOf (run (.queryAlerts 1 [0, 1]) State.reset)).take 3 = [0, 0, 0xFF] := by decide +kernel
theorem test_resetPin : run .resetPin (inState .running) = State.reset := by decide +kernel
theorem test_noticeEnable : (run (.noticeEnable 1 [0x7F]) State.reset).link.enables = 0x7F := by decide +kernel
theorem test_step_takes_the_front : step { State.reset with pending := [.flashPhase, .resetPin] }
    = exec .flashPhase { State.reset with pending := [.resetPin] } := rfl
/-- R179: a request taken before STARTED is not answered before it. -/
theorem test_started_goes_first :
    (run (.ident 1 []) State.reset).link.tx = .idle
      ∧ (run .started (run (.ident 1 []) State.reset)).link.tx = .notice (Frame.encode ⟨0x40, 0, [0, 4, 3]⟩) := by decide +kernel

/-! A key turn and a break of one sample, IN8 a GUARD line of group 0 in Z0 and IN9 a KEY line of Z0 at its last sample but one. -/
def keyAndBreak (arb : List Nat) : State :=
  { (withLine { cfg := { role := .guard 0 }, fresh := false }).setLine 9
      { cfg := { role := .key }, raw := true, count := 19, fresh := false } with arb := arb }
/-- R129, the key turn first: the groups of the zone are armed, then the group is broken at once; GUARD_STATE tells of both. -/
theorem test_inputSample_key_turn_before_break :
    let t := run (.inputSample 0x300) (keyAndBreak [1, 0])
    (t.group 0).state = .broken ∧ (t.group 1).state = .clear ∧ (t.line 9).pressed = true
      ∧ (t.link.notices.filter fun f => f.type = 0x47 && f.payload.head? = some 0).map (fun f => f.payload)
        = [[0, 1, 0, 0], [0, 2, 0, 1]] := by decide +kernel
/-- R129, the break first: the key turn finds the group BROKEN and leaves it so. -/
theorem test_inputSample_break_before_key_turn :
    let t := run (.inputSample 0x300) (keyAndBreak [0, 0])
    let u := run (.lineDebounced 9) t
    (t.group 1).state = .unarmed ∧ (u.group 0).state = .broken ∧ (u.group 1).state = .clear := by decide +kernel

/-! One break that ends several claims (R51, R55): capacity 20, AX0 and AX1 with draw 10 each in group 0. -/

/-- An axis of the budget tests, with its draw and group. -/
def drawing (d : Nat) (g : GroupId) (x : Axis) : Axis := { x with cfg := { x.cfg with ratedDraw := d, group := g } }

/-- The gallery with 20 units of budget, a GUARD line of group 0 on IN8 and the four axes given. -/
def twenty (m : Mode) (x y z w : Axis) : State :=
  let s := openS.setGallery { mode := m, safetyFixed := true, cfg := { capacity := 20 } }
  ((((s.setAxisQuiet 0 (drawing 10 0 x)).setAxisQuiet 1 (drawing 10 0 y)).setAxisQuiet 2 (drawing 20 1 z)).setAxisQuiet 3
    (drawing 10 1 w)).setLine 8 { cfg := { role := .guard 0 }, fresh := false }

/-- ST0 and ST1 play with their axes; ST2 (20 units), ST3 and ST4 (10 each) are queued in this order. -/
def released : State :=
  let s := twenty .openMode { restAxis with owner := .station 0 } { restAxis with owner := .station 1 } restAxis restAxis
  let s := s.setAxisQuiet 4 (drawing 10 1 restAxis)
  let st (x : StState) (set : AxisSet) (p : PlState) : Station :=
    { cfg := { enabled := true, axes := set, sizeCode := 3 }, state := x, player := { state := p, wait := .time } }
  let s := ((((s.setStation 0 (st .running 1 .playing)).setStation 1 (st .running 2 .playing)).setStation 2
    (st .queued 4 .idle)).setStation 3 (st .queued 8 .idle)).setStation 4 (st .queued 16 .idle)
  withShow { s with admission := { claimed := 20, queue :=
    [⟨2, .visitor, 0, 1, false⟩, ⟨3, .visitor, 0, 1, false⟩, ⟨4, .visitor, 0, 1, false⟩] } }

/-- Each release has its own pass: the first admits ST3, the second ST4; no pass ever finds the 20 units of ST2 free. -/
theorem test_break_gives_each_release_its_pass :
    let t := run (.inputSample 0x100) released
    (t.axis 3).owner = .station 3 ∧ (t.axis 4).owner = .station 4 ∧ (t.axis 2).owner = .none
      ∧ (t.station 2).state = .queued ∧ (t.station 0).state = .halted := by decide +kernel

/-- AX0 and AX1 home, AX2 (20 units) and AX3 (10) wait. -/
def homingTwo : State :=
  let h : Axis := { restAxis with owner := .gallery, state := .homing, homed := false, phase := some .seek }
  let u : Axis := { restAxis with state := .unhomed, homed := false }
  let s := twenty .opening h h u u
  { (s.setLine 10 { cfg := { role := .home 2 } }).setLine 11 { cfg := { role := .home 3 } } with
    admission := { claimed := 20, homingWait := 0x0C } }

/-- Each claim's end has its own scan: the first grants AX3. -/
theorem test_break_gives_each_claim_its_scan :
    let t := run (.inputSample 0x100) homingTwo
    (t.axis 3).state = .homing ∧ (t.axis 2).owner = .none ∧ (t.axis 0).owner = .none := by decide +kernel

/-! ### The hypotheses of the statements are met -/

theorem free : LinkFree State.reset := by decide
theorem settled : Settled State.reset := by decide

theorem witness_StepRunsTheFrontCommand : ({ State.reset with pending := [.resetPin] } : State).pending = .resetPin :: [] := rfl

theorem witness_IdleStepQueuesWhatFallsDue : State.reset.pending = [] ∧ thresholds State.reset = []
    ∧ (withLine (dueLine .key true)).pending = [] ∧ thresholds (withLine (dueLine .key true)) ≠ [] := by decide +kernel

/-- R150: three deadlines of one millisecond escalate in slot order, whatever the choices. -/
theorem test_idle_escalates_in_slot_order :
    let e := some { entry .axisJam (.axis 0) .attend with deadline := some 1 }
    let s := ((State.reset.setSlot 2 e).setSlot 7 e).setSlot 11 e
    ∀ n ∈ [[], [0, 0, 0], [1, 1, 1], [2, 1, 0]],
      (enqueue (timersDue { s with now := 1 }) { s with now := 1, arb := n ++ List.replicate 9 1 }).pending.filter isEscalation
        = [.escalationDeadlineExpiry 2, .escalationDeadlineExpiry 7, .escalationDeadlineExpiry 11] := by decide +kernel

theorem witness_IdentAndStatusAnswerInEveryMode :
    let t : State := { State.reset with link := { State.reset.link with notices := List.replicate 32 ⟨0x42, 0, []⟩ } }
    LinkFree State.reset ∧ ([] : List Byte) = [] ∧ ([0] : List Byte) ≠ [] ∧ hasBit t.link.enables NoticeClass.alert.bit = true
      ∧ 32 ≤ t.link.notices.length := by decide +kernel

theorem witness_NoticeEnableReplacesTheSet : LinkFree State.reset ∧ (0x7F : Byte).toNat < 128 ∧ 128 ≤ (0x80 : Byte).toNat := by
  decide

theorem witness_SetLinkResetAndStarted :
    let s := sending (.setLink 6 100)
    let e := sending .reset
    let r : State := { State.reset with link := { State.reset.link with resetting := true } }
    LinkFree State.reset ∧ s.link.tx = .reply [1] ∧ s.link.replies = [⟨⟨0x84, 1, [0]⟩, 0, .setLink 6 100⟩] ∧ s.link.fifo = []
      ∧ s.link.heldFrame = none ∧ requestOf (.ident 1 []) = some (0x01, 1, []) ∧ r.link.resetting = true ∧ r.link.heldFrame = none
      ∧ e.link.tx = .reply [1] ∧ e.link.replies = [⟨⟨0x84, 1, [0]⟩, 0, .reset⟩]
      ∧ State.reset.link.startedDue = some .pin ∧ s.link.startedDue = none := by decide

theorem witness_RequestsAreJudgedByTypeLengthAndMode : LinkFree State.reset
    ∧ requestOf (.unknownType 0x06 1 []) = some (0x06, 1, []) ∧ (0x06 : Byte) ∉ requestCodes
    ∧ requestOf (.ident 1 [0]) = some (0x01, 1, [0]) ∧ (0x01 : Byte) ∈ requestCodes
    ∧ ([0] : List Byte).length ∉ lengthsOf 0x01
    ∧ LinkFree openS ∧ requestOf (.cfgGuard 1 [0, 0]) = some (0x14, 1, [0, 0])
    ∧ (0x14 : Byte) ∈ ([0x10, 0x11, 0x12, 0x13, 0x14, 0x15] : List Byte) ∧ ([0, 0] : List Byte).length ∈ lengthsOf 0x14
    ∧ openS.gallery.mode ≠ .closed := by decide +kernel

theorem witness_FramerReadsWhatTheTransmitterForms : (Frame.mk 0x81 1 (List.replicate 60 0xC5)).payload.length ≤ 60 := by decide

/-- Four replies queued, the receiver's queue and held frame as given. -/
def busy (fifo : List (Byte × Bool)) (held : Option Frame) : State :=
  { State.reset with link := { State.reset.link with
      tx := .reply [1], replies := List.replicate 4 ⟨⟨0x84, 1, [0]⟩, 0, .none⟩, fifo := fifo, heldFrame := held,
      startedDue := none } }

/-- The reset state after STARTED, with the replies and notices given and the transmitter idle. -/
def quiet (rs : List Reply) (ns : List Frame) : State :=
  { State.reset with link := { State.reset.link with replies := rs, notices := ns, startedDue := none } }

theorem witness_FramesLeaveTheirQueuesInOrder :
    let n : State := { State.reset with link := { State.reset.link with tx := .notice [1] } }
    let r := quiet [⟨⟨0x84, 1, [0]⟩, 0, .none⟩] []
    let q := quiet [⟨⟨0x84, 1, [0]⟩, 1, .none⟩] [⟨0x42, 0, []⟩]
    requestOf (.ident 1 []) = some (0x01, 1, []) ∧ 4 ≤ (busy [] none).link.replies.length ∧ (busy [] none).link.heldFrame = none
      ∧ (busy [] none).link.tx = .reply [1]
      ∧ (busy [] none).link.replies = ⟨⟨0x84, 1, [0]⟩, 0, .none⟩ :: List.replicate 3 ⟨⟨0x84, 1, [0]⟩, 0, .none⟩
      ∧ (busy [] none).link.fifo = [] ∧ (busy [] (some ⟨0x01, 1, []⟩)).link.heldFrame = some ⟨0x01, 1, []⟩
      ∧ (busy [] (some ⟨0x01, 1, []⟩)).link.resetting = false ∧ n.link.tx = .notice [1] ∧ State.reset.link.tx = .idle
      ∧ (busy [] none).link.tx ≠ .idle ∧ State.reset.link.startedDue ≠ none
      ∧ r.link.tx = .idle ∧ r.link.startedDue = none ∧ r.link.replies = [⟨⟨0x84, 1, [0]⟩, 0, .none⟩]
      ∧ q.link.tx = .idle ∧ q.link.startedDue = none ∧ (∀ x ∈ q.link.replies.head?, x.waits ≠ 0)
      ∧ q.link.notices = [⟨0x42, 0, []⟩]
      ∧ (quiet [] []).link.notices = [] ∧ (∀ x ∈ (quiet [] []).link.replies.head?, x.waits ≠ 0) := by decide

theorem witness_ReceiverTakesBytesAndInterruptions :
    let c : State := { State.reset with link := { State.reset.link with framer := .check 2 [0x01, 1] } }
    let w (n : Nat) : State :=
      { busy (List.replicate n (0, false)) (some ⟨0x01, 1, []⟩) with link := { (busy (List.replicate n (0, false))
          (some ⟨0x01, 1, []⟩)).link with resetting := true } }
    State.reset.link.fifo = [] ∧ State.reset.link.heldFrame = none ∧ (State.reset.link.framer.take 0xC5).2 = none
      ∧ LinkFree c ∧ c.link.fifo = [] ∧ (c.link.framer.take 0xFC).2 = some ⟨0x01, 1, []⟩
      ∧ (w 63).link.fifo.length < 64 ∧ (w 63).link.heldFrame.isSome ∧ (w 63).link.resetting = true ∧ 64 ≤ (w 64).link.fifo.length
      ∧ (busy [] (some ⟨0x01, 1, []⟩)).link.fifo.length < 64 ∧ (busy [] (some ⟨0x01, 1, []⟩)).link.heldFrame.isSome
      ∧ 4 ≤ (busy [] (some ⟨0x01, 1, []⟩)).link.replies.length := by
  decide +kernel

/-- CLOSED with the safety settings fixed, and a claim of 10 units. -/
def fixedS : State := { State.reset with
  gallery := { safetyFixed := true, cfg := { capacity := 40 } }, admission := { claimed := 10 } }

theorem witness_CfgGalleryAppliesItsFields : LinkFree State.reset ∧ State.reset.gallery.mode = .closed
    ∧ (List.replicate 13 (0xFF : Byte)).length = 13 ∧ galleryInRange { capacity := 250, deadTime := 16 } = true
    ∧ LinkFree fixedS ∧ fixedS.gallery.mode = .closed ∧ fixedS.gallery.safetyFixed = true
    ∧ galleryInRange { capacity := 41 } = true ∧ (41 : Nat) ≠ fixedS.gallery.cfg.capacity
    ∧ galleryInRange { capacity := 9 } = true ∧ (9 : Nat) < fixedS.admission.claimed
    ∧ galleryInRange { capacity := 40 } = true ∧ fixedS.admission.claimed ≤ 40 := by decide +kernel

/-- The payload of the first clause carries no gallery fields in range: its capacity byte is above 250. -/
theorem witness_CfgGallery_out_of_range : ∀ c : GalleryCfg, galleryInRange c = true → List.replicate 13 (0xFF : Byte) ≠ galleryBytes c := by
  intro c h e
  have h1 : byte c.capacity = 0xFF := by
    have := congrArg List.head? e
    simpa [galleryBytes, List.replicate] using this.symm
  have h2 : c.capacity ≤ 250 := by simp [galleryInRange, inRange] at h; omega
  have h3 := congrArg BitVec.toNat h1
  simp [byte] at h3
  omega

theorem witness_CfgStationReplacesTheRecord :
    let r : StationRec := { enabled := true, windowBase := 1023, sizeCode := 255, cooldown := 60000, tripLevel := 31, leak := 5000,
                            rest := 600, ready := some 1, wait := some 2, group := [3, 4, 5, 6, 7, 8, 9, 10] }
    LinkFree State.reset ∧ State.reset.gallery.mode = .closed ∧ r.windowBase ≤ 1023 ∧ r.sizeCode ≤ 255 ∧ r.cooldown ≤ 60000
      ∧ (r.tripLevel = 0 ∨ 2 ≤ r.tripLevel ∧ r.tripLevel ≤ 31) ∧ 100 ≤ r.leak ∧ r.leak ≤ 5000 ∧ 1 ≤ r.rest ∧ r.rest ≤ 600
      ∧ r.group.length ≤ 8 ∧ r.lampLines.Nodup
      ∧ (¬ ∃ o : StationId, o ≠ 0 ∧ ∃ i ∈ (State.reset.station o).cfg.lampLines, i ∈ r.lampLines)
      ∧ ¬ ({ r with wait := some 1 } : StationRec).lampLines.Nodup := by decide +kernel

theorem witness_CfgStation_taken :
    let s := State.reset.setStation 11 { cfg := { enabled := true, wait := some 7 } }
    LinkFree s ∧ s.gallery.mode = .closed
      ∧ ∃ o : StationId, o ≠ 0 ∧ ∃ i ∈ (s.station o).cfg.lampLines, i ∈ ({ ready := some 7 } : StationRec).lampLines := by
  decide +kernel

theorem witness_CfgLineStartsTheLineAfresh :
    let g : State := { (withLine { cfg := { role := .guard 2 }, debounced := true }).setGroup 2 { state := .broken, brokenLines := 0x100 }
                       with gallery := { cfg := { capacity := 40 } } }
    let h : State := (withLine { cfg := { role := .home 0 } }).setAxisQuiet 0 { restAxis with state := .unhomed, homed := false }
    lineInRange { debounce := 5 } = true ∧ lineInRange { debounce := 100 } = true
      ∧ LinkFree h ∧ h.gallery.mode = .closed ∧ Settled h ∧ lineInRange { role := .home 0 } = true
      ∧ (∃ o : LineId, o ≠ 9 ∧ (h.line o).cfg.role = .home 0)
      ∧ LinkFree fixedS ∧ Settled fixedS ∧ lineSafety (fixedS.line 8).cfg ≠ lineSafety { role := .guard 0 }
      ∧ (State.reset.line 8).stuck = false ∧ (State.reset.line 8).cfg.role = .unused
      ∧ LinkFree g ∧ Settled g ∧ (g.line 8).stuck = false ∧ (g.line 8).cfg.role = .guard 2 ∧ (g.line 8).debounced = true
      ∧ hasBit (g.group 2).brokenLines 8 = true
      ∧ (h.line 8).stuck = false ∧ (h.line 8).cfg.role = .home 0 ∧ (h.axis 0).state = .unhomed := by decide +kernel
theorem witness_CfgLine_stuck_and_homing :
    let k := withLine { cfg := { role := .key }, stuck := true }
    let h (x : AxState) : State := (withLine { cfg := { role := .home 0 } }).setAxisQuiet 0
      { restAxis with state := x, homed := false, owner := .gallery }
    (LinkFree k ∧ Settled k ∧ k.gallery.mode = .closed ∧ (k.line 8).stuck = true ∧ alertKeysDistinct k.alerts = true
        ∧ ∀ g, (k.line 8).cfg.role ≠ .guard g)
      ∧ (∀ x ∈ [AxState.homing, .moving, .faulted], LinkFree (h x) ∧ Settled (h x) ∧ (h x).gallery.mode = .closed
        ∧ ((h x).line 8).stuck = false ∧ ((h x).line 8).cfg.role = .home 0 ∧ ((h x).axis 0).state = x) := by decide +kernel

def bigRec : AxisRec := { enabled := true, group := 5, kp := 255, kf := 255, dutymax := 1000 }
def ownedS : State := fixedS.setAxisQuiet 0 { restAxis with cfg := bigRec, owner := .gallery }
def homeS : State := withLine { cfg := { role := .home 0 } }

theorem witness_CfgAxisReplacesTheRecord :
    LinkFree State.reset ∧ State.reset.gallery.mode = .closed ∧ Settled State.reset ∧ axisInRange bigRec = true ∧ bigRec.kp ≤ 255
      ∧ bigRec.kf ≤ 255 ∧ (State.reset.axis 0).owner = .none ∧ State.reset.gallery.safetyFixed = false
      ∧ (¬ ∃ l, (State.reset.line l).cfg.role = .home 0) ∧ axisInRange {} = true
      ∧ LinkFree homeS ∧ Settled homeS ∧ ∃ l, (homeS.line l).cfg.role = .home 0 := by decide +kernel
theorem witness_CfgAxis_refused :
    LinkFree fixedS ∧ Settled fixedS ∧ fixedS.gallery.safetyFixed = true ∧ axisSafety (fixedS.axis 0).cfg ≠ axisSafety bigRec
      ∧ LinkFree ownedS ∧ Settled ownedS ∧ axisSafety (ownedS.axis 0).cfg = axisSafety bigRec
      ∧ (ownedS.axis 0).owner ≠ .none := by decide +kernel

theorem witness_CfgGuardAndCfgSupplyStoreTheirFields : LinkFree State.reset ∧ State.reset.gallery.mode = .closed
    ∧ supplyInRange { warn := 500, trip := 300, hyst := 20 } = true ∧ (List.replicate 9 (0 : Byte)).length = 9 := by decide +kernel

/-- The payload of the second clause carries no supply settings in range: its warn confirm byte is 0. -/
theorem witness_CfgSupply_out_of_range : ∀ c : SupplyCfg, supplyInRange c = true → List.replicate 9 (0 : Byte) ≠ supplyBytes c := by
  intro c h e
  have h1 : byte c.warnConfirm = 0 := by
    have := congrArg (fun l : List Byte => l[5]?) e
    simpa [supplyBytes, le16, List.replicate] using this.symm
  have h2 : 1 ≤ c.warnConfirm ∧ c.warnConfirm ≤ 64 := by simp [supplyInRange, inRange] at h; omega
  have h3 := congrArg BitVec.toNat h1
  simp [byte] at h3
  omega

theorem witness_StepRecordsAreWrittenAndReadBack :
    let r : List (List Byte) := List.replicate 4 (List.replicate 12 1)
    LinkFree State.reset ∧ Memory.wf State.reset.store = true ∧ (∀ x ∈ r, x.length = 12) ∧ 1020 < 65536 ∧ 1 ≤ r.length
      ∧ r.length ≤ 4 ∧ 1024 < 1021 + r.length ∧ 1020 + r.length ≤ 1024
      ∧ (∀ st, (State.reset.station st).state ∉ [StState.running, .paused, .stopping])
      ∧ LinkFree (inState .running) ∧ Memory.wf (inState .running).store = true
      ∧ ((inState .running).station 0).state ∈ [StState.running, .paused, .stopping]
      ∧ ((inState .running).station 0).cfg.sizeCode = 3 ∧ ((inState .running).station 0).cfg.windowBase < 7 + 1
      ∧ 7 < ((inState .running).station 0).cfg.windowBase + 2 ^ 3 := by decide +kernel

/-- An OPEN gallery whose first show plays: its axis moves, and an unacknowledged alert stands in the table. -/
def lively : State :=
  let s := (playing { state := .playing, wait := .axes, waitAxes := 1 }).setAxisQuiet 0 movingAxis
  let s := axisIds.foldl (fun s a => s.setAxisQuiet a { s.axis a with braked := false }) s
  { s with admission := { claimed := 3 }, alerts := (State.reset.setSlot 5 (some (entry .guardBroken (.group 0) .urgent))).alerts }

/-- A step from a state in which a show plays, which meets every law that a step keeps. -/
theorem lively_steps : ∃ t, step lively = .next t := ⟨_, rfl⟩
theorem witness_StepKeepsTheStoreCanonical : (∃ t, step lively = .next t) ∧ Memory.wf lively.store = true ∧ workDone lively = true :=
  ⟨lively_steps, by decide +kernel⟩
theorem witness_StepKeepsSettingsInRange : (∃ t, step lively = .next t) ∧ settingsInRange lively = true :=
  ⟨lively_steps, by decide +kernel⟩
theorem witness_StepKeepsCountsAndQueuesInBounds : (∃ t, step lively = .next t) ∧ countsInRange lively = true ∧ talliesInRange lively = true ∧ linkLaw lively = true :=
  ⟨lively_steps, by decide +kernel⟩
theorem witness_StepKeepsTheBrakeJudgement : (∃ t, step lively = .next t) ∧ (∀ a, (lively.axis a).braked = lively.shouldBrake a)
    ∧ ∀ g, (lively.group g).state ≠ .broken → (lively.group g).brokenLines = 0 :=
  ⟨lively_steps, by decide +kernel⟩
theorem witness_StepKeepsCausesAndTheBudget : (∃ t, step lively = .next t) ∧ causeLaw lively = true ∧ budgetLaw lively = true :=
  ⟨lively_steps, by decide +kernel⟩
theorem witness_StepKeepsTheGalleryLaws : (∃ t, step lively = .next t) ∧ galleryLaws lively = true :=
  ⟨lively_steps, by decide +kernel⟩
theorem witness_StepKeepsMotionWithinItsLimits : (∃ t, step lively = .next t) ∧ settingsInRange lively = true ∧ galleryLaws lively = true
    ∧ motionLaws lively = true ∧ softLimitLaw lively = true :=
  ⟨lively_steps, by decide +kernel⟩
theorem witness_StepKeepsTheBridgeLaws : (∃ t, step lively = .next t) ∧ outputLaw lively = true ∧ settingsInRange lively = true
    ∧ dutyLaw lively = true ∧ countsInRange lively = true ∧ encoderLaw lively = true :=
  ⟨lively_steps, by decide +kernel⟩
theorem witness_StepKeepsTheAlertLaws : (∃ t, step lively = .next t) ∧ alertLaws lively.alerts = true :=
  ⟨lively_steps, by decide +kernel⟩

theorem witness_SafetySettingsStayFixed : (∃ t, step openS = .next t) ∧ openS.gallery.safetyFixed = true :=
  ⟨⟨_, rfl⟩, by decide +kernel⟩

/-- CLOSED, an UNHOMED axis with a home line and an UNARMED group, and a budget that covers it. -/
def toHome : State :=
  (((State.reset.setAxisQuiet 0 { restAxis with state := .unhomed, homed := false, braked := true }).setLine 8
    { cfg := { role := .home 0 } })).setGallery { cfg := { capacity := 3 } }

theorem witness_OpenArmsFixesAndEnters :
    LinkFree openS ∧ openS.gallery.mode ≠ .closed
      ∧ LinkFree (supplyIn .tripped 0 0) ∧ (supplyIn .tripped 0 0).gallery.mode = .closed ∧ SupplyOut (supplyIn .tripped 0 0)
      ∧ LinkFree ownedS ∧ ownedS.gallery.mode = .closed ∧ ¬ SupplyOut ownedS ∧ (∃ a, (ownedS.axis a).owner = .gallery)
      ∧ LinkFree standby ∧ standby.gallery.mode = .closed ∧ ¬ SupplyOut standby ∧ (∀ a, (standby.axis a).owner ≠ .gallery)
      ∧ Settled standby ∧ standby.admission.queue = []
      ∧ (∀ a, (standby.axis a).state ≠ .homing ∧ (standby.axis a).state ≠ .unhomed) := by decide +kernel
theorem witness_Open_judges :
    let b := standby.setGroup 0 { state := .broken }
    let u := standby.setAxisQuiet 0 { restAxis with state := .faulted }
    (standby.station 0).state = .standby ∧ (standby.station 0).restOwed = false ∧ inSet standby 0 0
      ∧ (standby.group (standby.axis 0).cfg.group).state ≠ .broken ∧ (standby.axis 0).healthy = true
      ∧ (∀ a, inSet standby 0 a → a = 0) ∧ (b.group (b.axis 0).cfg.group).state = .broken ∧ (u.axis 0).healthy = false := by
  decide +kernel
theorem witness_Open_homes :
    LinkFree toHome ∧ toHome.gallery.mode = .closed ∧ Settled toHome ∧ ¬ SupplyOut toHome
      ∧ (∀ a, (toHome.axis a).owner ≠ .gallery) ∧ (toHome.axis 0).state = .unhomed ∧ (∃ l, (toHome.line l).cfg.role = .home 0)
      ∧ (toHome.group (toHome.axis 0).cfg.group).state = .unarmed
      ∧ (toHome.axis 0).cfg.ratedDraw ≤ toHome.gallery.cfg.capacity - toHome.admission.claimed := by decide +kernel

def opening : State := (withAxis { restAxis with owner := .gallery, state := .homing, homed := false, phase := some .seek }).setGallery
  { mode := .opening, safetyFixed := true, cfg := { capacity := 40 } }

theorem witness_CloseEndsTheSession :
    let c := openS.setGallery { openS.gallery with mode := .closing }
    LinkFree State.reset ∧ State.reset.gallery.mode = .closed ∧ LinkFree c ∧ c.gallery.mode = .closing
      ∧ LinkFree (playing {}) ∧ (playing {}).gallery.mode = .openMode ∧ (playing {}).work = {}
      ∧ (∃ st, ((playing {}).station st).state = .running)
      ∧ LinkFree (inState .ready) ∧ (inState .ready).gallery.mode = .openMode ∧ (inState .ready).work = {}
      ∧ (inState .ready).admission.homingWait = 0 ∧ (∀ st, ¬ Playing (inState .ready) st)
      ∧ (∀ a, ((inState .ready).axis a).cfg.park = none ∧ ((inState .ready).axis a).owner ≠ .gallery)
      ∧ LinkFree opening ∧ opening.gallery.mode = .opening ∧ opening.work = {} ∧ (∃ a, (opening.axis a).owner = .gallery) := by
  decide +kernel
theorem witness_Close_parks :
    let s := (inState .ready).setAxisQuiet 0 { restAxis with cfg := { restAxis.cfg with park := some 50 } }
    let x := s.axis 0
    LinkFree s ∧ s.gallery.mode = .openMode ∧ s.work = {} ∧ s.admission.homingWait = 0 ∧ (∀ st, ¬ Playing s st)
      ∧ (∀ b, (s.axis b).owner ≠ .gallery) ∧ x.homed = true ∧ x.state = .idle ∧ x.cfg.park = some 50 ∧ x.owner = .none
      ∧ x.braked = false ∧ x.cfg.ratedDraw ≤ s.gallery.cfg.capacity - s.admission.claimed ∧ x.vel = 0 ∧ x.stopReq = none
      ∧ x.cmd ≠ 50 * 256 := by decide +kernel

/-- The test station with a held queue of n entries of other stations. -/
def heldQueue (x : StState) (n : Nat) : State :=
  { inState x with admission := { hold := true, queue := List.replicate n ⟨5, .visitor, 0, 1, false⟩ } }

theorem witness_PlayAndCancelMoveTheStation :
    LinkFree openS ∧ 12 ≤ (12 : Byte).toNat ∧ LinkFree State.reset ∧ State.reset.gallery.mode ≠ .openMode
      ∧ openS.gallery.mode = .openMode ∧ (openS.station 0).state = .unconfigured
      ∧ ((inState .running).station 0).cfg.sizeCode = 3 ∧ ((inState .running).station 0).state ≠ .queued
      ∧ LinkFree (heldQueue .ready 8) ∧ 8 ≤ (heldQueue .ready 8).admission.queue.length
      ∧ LinkFree (heldQueue .resting 7) ∧ (heldQueue .resting 7).admission.queue.length < 8 ∧ Settled (heldQueue .resting 7)
      ∧ (heldQueue .resting 7).admission.hold = true ∧ (heldQueue .resting 7).gallery.mode = .openMode
      ∧ ((heldQueue .resting 7).station 0).state = .resting ∧ ((heldQueue .resting 7).station 0).cfg.sizeCode = 3
      ∧ LinkFree (inState .queued) ∧ ((inState .queued).station 0).state = .queued ∧ (inState .queued).gallery.mode = .openMode
      ∧ (inState .queued).work = {} ∧ ¬ Admits (heldQueue .resting 7) 0 := by decide +kernel
/-- The test station, whose show waits 100 ms at its first step, is admissible. -/
theorem witness_Play_admits : ∀ x ∈ [StState.ready, .resting],
    let s := withShow (inState x)
    LinkFree s ∧ s.gallery.mode = .openMode ∧ (s.station 0).state = x ∧ s.admission.queue.length < 8 ∧ Settled s ∧ Admits s 0
      ∧ StartsWaiting s 0 100 := by decide +kernel

/-- The test station PAUSED, its axis held short of its target. -/
def pausedAt (x : Axis) : State :=
  let s := playing { state := .held, wait := .time, remaining := 40 }
  (s.setStation 0 { s.station 0 with state := .paused }).setAxisQuiet 0 x

theorem witness_HoldAndReleaseFreezeAndResume :
    let x : Axis := { movingAxis with state := .stopping, stopReq := some .keep }
    let y : Axis := { movingAxis with state := .idle, vel := 0 }
    LinkFree openS ∧ 12 ≤ (12 : Byte).toNat ∧ State.reset.gallery.mode ≠ .openMode ∧ openS.gallery.mode = .openMode
      ∧ (openS.station 0).state ≠ .running ∧ LinkFree (playing {}) ∧ (playing {}).gallery.mode = .openMode
      ∧ ((playing {}).station 0).state = .running ∧ (playing {}).work = {} ∧ (openS.station 0).state ≠ .paused
      ∧ LinkFree (pausedAt x) ∧ ((pausedAt x).station 0).state = .paused ∧ ((pausedAt x).station 0).player.wait = .time
      ∧ ((pausedAt x).station 0).player.remaining ≠ 0 ∧ (pausedAt x).gallery.mode = .openMode ∧ (pausedAt x).work = {}
      ∧ x.owner = .station 0 ∧ x.target = some 100 ∧ x.braked = false ∧ x.vel ≠ 0
      ∧ y.state = .idle ∧ y.stopReq = none ∧ y.vel = 0 ∧ y.cmd ≠ 100 * 256 ∧ ((pausedAt y).axis 0) = y := by decide +kernel

theorem witness_StopAbortsTheShow :
    let m := (playing { state := .playing }).setAxisQuiet 0 movingAxis
    let n := inState .running
    LinkFree openS ∧ 12 ≤ (12 : Byte).toNat ∧ (openS.station 0).state ≠ .running ∧ (openS.station 0).state ≠ .paused
      ∧ LinkFree m ∧ (m.station 0).state = .running ∧ m.work = {} ∧ m.gallery.mode = .openMode
      ∧ (∃ a, (m.axis a).owner = .station 0 ∧ (m.axis a).vel ≠ 0)
      ∧ LinkFree n ∧ (n.station 0).state = .running ∧ Settled n ∧ (∀ a, (n.axis a).owner ≠ .station 0)
      ∧ (n.station 0).cfg.cooldown ≠ 0 := by decide +kernel
theorem witness_Stop_closing :
    let c (s : State) := s.setGallery { s.gallery with mode := .closing, closing := .draining }
    let m := c ((playing { state := .playing }).setAxisQuiet 0 movingAxis)
    let n := c (inState .running)
    let o := n.setStation 1 { state := .running }
    LinkFree m ∧ (m.station 0).state = .running ∧ m.work = {} ∧ m.gallery.mode = .closing ∧ m.gallery.closing = .draining
      ∧ (∃ a, (m.axis a).owner = .station 0 ∧ (m.axis a).vel ≠ 0)
      ∧ LinkFree o ∧ (o.station 0).state = .running ∧ o.work = {} ∧ o.gallery.mode = .closing ∧ o.gallery.closing = .draining
      ∧ (∃ st, st ≠ 0 ∧ Playing o st) ∧ (∀ a, (o.axis a).owner ≠ .station 0) ∧ (o.station 0).cfg.cooldown ≠ 0
      ∧ LinkFree n ∧ (n.station 0).state = .running ∧ n.work = {} ∧ n.gallery.mode = .closing ∧ n.gallery.closing = .draining
      ∧ (∀ st, st ≠ 0 → ¬ Playing n st) ∧ (∀ a, (n.axis a).owner ≠ .station 0) ∧ n.admission.homingWait = 0
      ∧ (∀ a, (n.axis a).cfg.park = none ∧ (n.axis a).owner ≠ .gallery) := by decide +kernel

/-- The test station with a press on its line due. -/
def pressOn (x : StState) (tally trip n : Nat) : State :=
  let s := heldQueue x n
  (s.setStation 0 { s.station 0 with tally := tally, cfg := { (s.station 0).cfg with tripLevel := trip } }).setLine 8
    (dueLine (.demand 0) true)

theorem witness_VisitorPressesReachTheirStations :
    let p := pressOn .ready 2 4 7
    ¬ Due ((withLine {}).line 8) ∧ Due (p.line 8) ∧ (p.line 8).raw = true ∧ (p.line 8).cfg.role = .demand 0 ∧ steady p
      ∧ p.gallery.mode = .openMode ∧ (p.station 0).state = .ready ∧ ¬ Trips (p.station 0) ∧ p.admission.queue.length < 8
      ∧ ¬ Admits p 0
      ∧ steady (pressOn .ready 3 4 0) ∧ Trips ((pressOn .ready 3 4 0).station 0)
      ∧ steady (pressOn .ready 0 0 8) ∧ 8 ≤ (pressOn .ready 0 0 8).admission.queue.length
      ∧ ¬ Trips ((pressOn .ready 0 0 8).station 0) := by decide +kernel
theorem witness_VisitorPress_admits :
    let s := (withShow (inState .ready)).setLine 8 (dueLine (.demand 0) true)
    Due (s.line 8) ∧ (s.line 8).raw = true ∧ (s.line 8).cfg.role = .demand 0 ∧ steady s ∧ s.gallery.mode = .openMode
      ∧ (s.station 0).state = .ready ∧ ¬ Trips (s.station 0) ∧ s.admission.queue.length < 8 ∧ Admits s 0
      ∧ StartsWaiting s 0 100 := by decide +kernel
theorem witness_VisitorPresses_states :
    let c := (withLine (dueLine (.demand 0) true))
    (∀ x ∈ [StState.standby, .resting, .halted, .outOfService, .running, .paused, .stopping, .cooldown, .queued],
      steady (pressOn x 31 31 1) ∧ ((pressOn x 31 31 1).station 0).state = x ∧ Due ((pressOn x 31 31 1).line 8))
      ∧ steady c ∧ Due (c.line 8) ∧ (c.line 8).raw = true ∧ (c.line 8).cfg.role = .demand 0 ∧ c.gallery.mode = .closed := by
  decide +kernel

theorem witness_KeyTurnsReleasesAndRestores :
    let u := withLine (dueLine .spare true)
    let h := withLine (dueLine (.home 0) true)
    let k := withLine (dueLine .key true)
    let z : State := { k with safety := { groups := Vector.replicate 6 { zone := 3 } } }
    (Due (u.line 8) ∧ steady u ∧ (u.line 8).raw = true ∧ (u.line 8).cfg.role ∈ [LineRole.unused, .spare])
      ∧ (Due (h.line 8) ∧ steady h ∧ (h.line 8).raw = true ∧ (h.line 8).cfg.role = .home 0)
      ∧ (Due (k.line 8) ∧ steady k ∧ (k.line 8).raw = true ∧ (k.line 8).cfg.role = .key
        ∧ (k.group (k.axis 0).cfg.group).state = .unarmed ∧ (k.group (k.axis 0).cfg.group).zone = (k.line 8).cfg.zone)
      ∧ (Due (z.line 8) ∧ steady z ∧ (∀ g, (z.group g).state = .unarmed → ¬ (z.group g).zone = (z.line 8).cfg.zone)
        ∧ (∀ st, (z.station st).state ≠ .halted)) := by decide +kernel
theorem witness_releases :
    let r := withLine (dueLine (.demand 0) false)
    let st := withLine { dueLine .key false with stuck := true }
    let g := (withLine (dueLine (.guard 2) false)).setGroup 2 { state := .broken, brokenLines := 0x100 }
    (Due (r.line 8) ∧ steady r ∧ (r.line 8).raw = false ∧ (r.line 8).stuck = false ∧ ∀ g, (r.line 8).cfg.role ≠ .guard g)
      ∧ (Due (st.line 8) ∧ steady st ∧ (st.line 8).raw = false ∧ (st.line 8).stuck = true
        ∧ (∀ g, (st.line 8).cfg.role ≠ .guard g) ∧ alertKeysDistinct st.alerts = true)
      ∧ (Due (g.line 8) ∧ steady g ∧ (g.line 8).raw = false ∧ (g.line 8).cfg.role = .guard 2
        ∧ hasBit (g.group 2).brokenLines 8 = true) := by decide +kernel

/-- The test station in a state with its timers running. -/
def timed (x : StState) (owed : Bool) : State :=
  let s := heldQueue x 0
  s.setStation 0 { s.station 0 with
    restOwed := owed, tally := 2, leakAt := some 0, flashAt := some 0, cooldownAt := some 0, restAt := some 0 }

theorem witness_StationTimersRunOut :
    let n := inState .ready
    let u := (timed .resting false).setAxisQuiet 0 { restAxis with state := .faulted }
    ranOut (timed .ready false) ((timed .ready false).station 0).flashAt = true ∧ ranOut n (n.station 0).flashAt = false
      ∧ ranOut (timed .ready false) ((timed .ready false).station 0).leakAt = true
      ∧ ((timed .running false).station 0).state ∈ [StState.running, .paused, .stopping, .cooldown]
      ∧ ¬ ((n.station 0).state = .cooldown ∧ ranOut n (n.station 0).cooldownAt = true)
      ∧ ((timed .cooldown false).station 0).state = .cooldown
      ∧ ranOut (timed .cooldown false) ((timed .cooldown false).station 0).cooldownAt = true
      ∧ steady (timed .cooldown false) ∧ ((timed .cooldown true).station 0).restOwed = true ∧ steady (timed .cooldown true)
      ∧ ¬ ((n.station 0).state = .resting ∧ ranOut n (n.station 0).restAt = true)
      ∧ ranOut (timed .resting false) ((timed .resting false).station 0).restAt = true ∧ steady (timed .resting false)
      ∧ (∀ a, inSet (timed .resting false) 0 a → ((timed .resting false).axis a).healthy = true)
      ∧ steady u ∧ (∃ a, inSet u 0 a ∧ (u.axis a).healthy = false) := by decide +kernel

/-- The test station QUEUED for 5 seconds, which is the starve limit; its show waits 100 ms at its first step. -/
def starving (hold : Bool) : State :=
  { withShow (inState .queued) with
    now := 5000, gallery := { mode := .openMode, safetyFixed := true, cfg := { capacity := 40, starve := 5 } },
    admission := { hold := hold, queue := [⟨0, .visitor, 0, 1, false⟩] } }

theorem witness_SeniorEntriesBlockNewerOnes :
    (∀ h, (starving h).admission.queue.find? (fun e => !e.senior) = some ⟨0, .visitor, 0, 1, false⟩
        ∧ (starving h).gallery.cfg.starve ≠ 0
        ∧ (starving h).gallery.cfg.starve * 1000 ≤ ((starving h).now - 0).toNat)
      ∧ State.reset.admission.queue.find? (fun e => !e.senior) = none
      ∧ steady (starving true) ∧ (starving false).work = {} ∧ (starving false).gallery.mode = .openMode
      ∧ (starving false).admission.hold = false ∧ (starving false).admission.queue.length = 1 ∧ ((starving false).station 0).state = .queued
      ∧ Admits (starving false) 0
      ∧ StartsWaiting (starving false) 0 100 ∧ ¬ Admits (starving true) 0 := by decide +kernel
/-- The pass that follows leaves nothing to be done. -/
theorem witness_Senior_pass :
    let s := starving false
    let m : State := { s with admission := { s.admission with
      queue := s.admission.queue.map fun e => if e.station = 0 then { e with senior := true } else e } }
    (passOver m.admission.queue m).work = {} := by decide +kernel

/-- The test station waiting at a step, with the next records of its window given by their first bytes. -/
def waiting (k count : Nat) (mark : Option Nat) (store : List Host.Cell) : State :=
  { playing { state := .playing, wait := .time, deadline := some 0, current := k, loopCount := count, loopMark := mark } with
    store := store, admission := { hold := true } }

theorem witness_WaitTimeExpiryTakesTheNextSteps :
    let w := waiting 0 0 none [⟨12, 2⟩, ⟨13, 1⟩]
    let m := waiting 0 0 none [⟨12, 6⟩, ⟨13, 3⟩, ⟨24, 2⟩, ⟨25, 1⟩]
    let l := waiting 3 2 (some 1) [⟨12, 2⟩, ⟨13, 1⟩, ⟨48, 7⟩]
    let p := waiting 0 0 none [⟨12, 4⟩, ⟨13, 1⟩, ⟨14, 2⟩, ⟨15, 255⟩, ⟨24, 2⟩, ⟨25, 1⟩]
    (((State.reset.station 0).player.state ≠ .playing))
      ∧ ((w.station 0).player.state = .playing ∧ (w.station 0).player.wait = .time
        ∧ ranOut w (w.station 0).player.deadline = true ∧ steady w ∧ 0 + 1 < 2 ^ (w.station 0).cfg.sizeCode ∧ u8 (w.stepRecord 1) 0 = 2
        ∧ u16 (w.stepRecord 1) 1 = 1)
      ∧ (steady m ∧ 0 + 2 < 2 ^ (m.station 0).cfg.sizeCode ∧ u8 (m.stepRecord 1) 0 = 6 ∧ u8 (m.stepRecord 2) 0 = 2
        ∧ u16 (m.stepRecord 2) 1 = 1)
      ∧ (steady l ∧ u8 (l.stepRecord 4) 0 = 7 ∧ 2 ≤ (l.station 0).player.loopCount ∧ (l.station 0).player.loopMark = some 1
        ∧ 1 < 2 ^ (l.station 0).cfg.sizeCode ∧ u8 (l.stepRecord 1) 0 = 2 ∧ u16 (l.stepRecord 1) 1 = 1)
      ∧ (steady p ∧ u8 (p.stepRecord 1) 0 = 4 ∧ u8 (p.stepRecord 1) 3 = 0xFF ∧ u8 (p.stepRecord 2) 0 = 2
        ∧ u16 (p.stepRecord 2) 1 = 1) := by decide +kernel
theorem witness_WaitTimeExpiry_ends :
    let e := (waiting 0 0 none []).setAxisQuiet 0 restAxis
    let q := (waiting 7 0 none []).setAxisQuiet 0 movingAxis
    (steady e ∧ u8 (e.stepRecord 1) 0 = 0 ∧ (∀ a, (e.axis a).owner ≠ .station 0) ∧ (e.station 0).cfg.cooldown ≠ 0 ∧ drainsOn e 0)
      ∧ (steady q ∧ (q.station 0).player.current + 1 = 2 ^ (q.station 0).cfg.sizeCode ∧ (q.station 0).state = .running
        ∧ ∃ a, (q.axis a).owner = .station 0 ∧ (q.axis a).vel ≠ 0) := by decide +kernel

/-- A show at its first place with one step given, and a WAIT_TIME of 1 ms after it. -/
def atStep (l : List Byte) (s : State) : State :=
  { s with store := (l.zipIdx.filterMap fun (b, k) => if b = 0 then none else some ⟨12 + k, b⟩) ++ [⟨24, 2⟩, ⟨25, 1⟩] }

/-- The playing test station, with AX0 and AX1 in its set, owned and at rest. -/
def showS : State :=
  let s := waiting 0 0 none []
  (((s.setAxisQuiet 0 { restAxis with owner := .station 0 }).setAxisQuiet 1 { restAxis with owner := .station 0 }).setStation 0
    { s.station 0 with cfg := { (s.station 0).cfg with axes := 3 } })

theorem witness_ShowStepsMoveWaitAndSound :
    let premises (s : State) : Bool := (s.station 0).player.state = .playing && (s.station 0).player.wait = .time
      && ranOut s (s.station 0).player.deadline && decide (steady s)
      && (s.station 0).player.current + 1 < 2 ^ (s.station 0).cfg.sizeCode && (1 : Nat) ≠ 0 && 1 + 1 < 2 ^ (s.station 0).cfg.sizeCode
      && u8 (s.stepRecord 2) 0 = 2 && u16 (s.stepRecord 2) 1 = 1
    let one := atStep [1, 0, 0xFF, 50, 0, 100] showS
    let two := atStep [1, 0, 1, 50, 1, 100, 0, 0, 200] showS
    let far := atStep [1, 0, 0xFF, 50, 2, 100] showS
    let here := atStep [1, 0, 0xFF, 50, 2] showS
    let arrive := atStep [3] showS
    (premises one = true ∧ u8 (one.stepRecord 1) 0 = 1 ∧ u8 (one.stepRecord 1) 2 = 0xFF ∧ hasBit ((one.stepRecord 1).getD 4 0) 1 = false
        ∧ inSet one 0 0 ∧ (one.axis 0).state ≠ .faulted ∧ (one.axis 0).braked = false)
      ∧ (premises two = true ∧ u8 (two.stepRecord 1) 1 = 0 ∧ u8 (two.stepRecord 1) 2 = 1 ∧ hasBit ((two.stepRecord 1).getD 4 0) 1 = false
        ∧ inSet two 0 1 ∧ (two.axis 1).state ≠ .faulted ∧ (two.axis 1).braked = false)
      ∧ (premises far = true ∧ hasBit ((far.stepRecord 1).getD 4 0) 1 = true
        ∧ ¬ Resting (moved 100 { far.axis 0 with override := 50 })
        ∧ premises here = true ∧ Resting (moved 0 { here.axis 0 with override := 50 }))
      ∧ (premises arrive = true ∧ u8 (arrive.stepRecord 1) 0 = 3 ∧ (∀ a, inSet arrive 0 a → Resting (arrive.axis a))
        ∧ ¬ Resting (((arrive.setAxisQuiet 1 movingAxis)).axis 1) ∧ inSet arrive 0 1) := by decide +kernel
theorem witness_ShowSteps_sound_lamps_and_faults :
    let tone := atStep [5, 16, 0, 15, 1, 0] showS
    let lamps := atStep [4, 1, 2, 0, 5] showS
    let bad (l : List Byte) := atStep l (showS.setAxisQuiet 0 movingAxis)
    (u8 (tone.stepRecord 1) 0 = 5 ∧ 16 ≤ u16 (tone.stepRecord 1) 1 ∧ u16 (tone.stepRecord 1) 1 ≤ 4000
        ∧ u8 (tone.stepRecord 1) 3 ≤ 15 ∧ u16 (tone.stepRecord 1) 4 ≠ 0 ∧ u8 (tone.stepRecord 2) 0 = 2)
      ∧ (u8 (lamps.stepRecord 1) 0 = 4 ∧ u8 (lamps.stepRecord 1) 3 = 0 ∧ inSet lamps 0 0
        ∧ (lamps.bridge 0).raw + (lamps.axis 0).offset ≠ i32 (lamps.stepRecord 1) 4
        ∧ ((lamps.setBridge 0 { raw := 5 }).bridge 0).raw = i32 (lamps.stepRecord 1) 4)
      ∧ (∀ l ∈ ([[8], [1, 8], [1, 0, 0], [4, 0, 0, 7], [5, 15]] : List (List Byte)),
          ((bad l).station 0).state = .running ∧ steady (bad l)
            ∧ ∃ a, ((bad l).axis a).owner = .station 0 ∧ ((bad l).axis a).vel ≠ 0)
      ∧ u8 ((bad [1, 0, 0]).stepRecord 1) 1 = u8 ((bad [1, 0, 0]).stepRecord 1) 2
      ∧ ¬ inSet (bad [4, 0, 0, 7]) 0 7 ∧ u16 ((bad [5, 15]).stepRecord 1) 1 < 16 := by decide +kernel

/-- CLOSED with a budget of 3 units and one axis given. -/
def closedWith (x : Axis) : State := (withAxis x).setGallery { cfg := { capacity := 3 } }

theorem witness_AxisMoveStartsAMaintenanceMove :
    let s := closedWith restAxis
    let d := closedWith { restAxis with cfg := { restAxis.cfg with ratedDraw := 4 } }
    (-16000000 : Int) ≤ -16000000 ∧ (16000000 : Int) ≤ 16000000 ∧ LinkFree openS ∧ openS.gallery.mode ≠ .closed
      ∧ State.reset.gallery.mode = .closed ∧ (State.reset.axis 0).state = .unconfigured
      ∧ LinkFree s ∧ s.gallery.mode = .closed ∧ (s.axis 0).state = .idle ∧ (s.axis 0).owner = .none ∧ (s.axis 0).braked = false
      ∧ (s.axis 0).cfg.ratedDraw ≤ s.gallery.cfg.capacity - s.admission.claimed ∧ Settled s ∧ (s.axis 0).vel = 0
      ∧ (s.axis 0).stopReq = none ∧ (s.axis 0).cmd = 0 * 256 ∧ (s.axis 0).cmd ≠ 1 * 256
      ∧ d.gallery.cfg.capacity - d.admission.claimed < (d.axis 0).cfg.ratedDraw := by decide +kernel

theorem witness_AxisHomeStartsAHoming :
    let s := (closedWith { restAxis with state := .unhomed, homed := false }).setLine 8 { cfg := { role := .home 0 } }
    let d := s.setGallery { cfg := { capacity := 2 } }
    8 ≤ (8 : Byte).toNat ∧ LinkFree openS ∧ openS.gallery.mode ≠ .closed ∧ State.reset.gallery.mode = .closed
      ∧ (State.reset.axis 0).state = .unconfigured ∧ LinkFree s ∧ s.gallery.mode = .closed ∧ (s.axis 0).state = .unhomed
      ∧ (s.axis 0).owner = .none ∧ (s.axis 0).braked = false ∧ (s.line 8).cfg.role = .home 0
      ∧ (∀ o, (s.line o).cfg.role = .home 0 → o = 8) ∧ (s.axis 0).cfg.ratedDraw ≤ s.gallery.cfg.capacity - s.admission.claimed
      ∧ Settled s ∧ (s.axis 0).vel = 0 ∧ 1 ≤ (s.axis 0).cfg.travel
      ∧ d.gallery.cfg.capacity - d.admission.claimed < (d.axis 0).cfg.ratedDraw := by decide +kernel

theorem witness_AxisClearEndsAFault :
    let f := withAxis { restAxis with state := .faulted }
    let u := withAxis { restAxis with state := .faulted, homed := false }
    let h := u.setLine 8 { cfg := { role := .home 0 } }
    LinkFree State.reset ∧ 8 ≤ (8 : Byte).toNat ∧ (State.reset.axis 0).state ≠ .faulted
      ∧ LinkFree f ∧ (f.axis 0).state = .faulted ∧ steady f ∧ (f.axis 0).homed = true
      ∧ steady u ∧ (u.axis 0).homed = false ∧ (∀ l, (u.line l).cfg.role ≠ .home 0)
      ∧ steady h ∧ (h.axis 0).homed = false ∧ (∃ l, (h.line l).cfg.role = .home 0) := by decide +kernel
theorem witness_AxisClear_station :
    let s := (inState .outOfService).setAxisQuiet 0 { restAxis with state := .faulted }
    (s.axis 0).state = .faulted ∧ steady { s with admission := { hold := true } } ∧ (s.axis 0).homed = true ∧ inSet s 0 0
      ∧ (s.station 0).state = .outOfService ∧ (s.station 0).restOwed = false
      ∧ (∀ b, inSet s 0 b → b ≠ 0 → (s.axis b).healthy = true) ∧ ¬ inSet s 1 0 := by decide +kernel

theorem witness_ProfileTurnsKeepWithinTargetsAndLimits :
    let x := backward 256 256000
    (0 < 64 ∧ 64 ≤ 512 ∧ 0 < 448 ∧ 448 ≤ 512 ∧ 448 * (448 + 64) / (2 * 64) ≤ 1792 ∧ normalVel 64 512 64 64 = 64
        ∧ normalVel 64 512 2560 0 < 2560)
      ∧ x.homed = true ∧ x.cfg.softMin ≤ x.cfg.softMax ∧ x.cfg.softMin ≤ x.cmd / 256 ∧ x.cmd / 256 ≤ x.cfg.softMax
      ∧ x.target = some 990 ∧ x.cfg.softMin ≤ 990 ∧ 990 ≤ x.cfg.softMax ∧ (x.turn 100 0).axis.homed = true
      ∧ 1 ≤ x.cfg.acc ∧ x.cfg.acc ≤ x.cfg.vmax ∧ x.cfg.homingSpeed ≤ x.cfg.vmax ∧ x.override ≤ 100 ∧ x.vel ≤ x.cfg.vmax := by
  decide +kernel

/-- An axis MOVING from rest for the gallery. -/
def toward (d : Int) : State := withAxis { restAxis with owner := .gallery, state := .moving, target := some 10, cmd := 2560 - d }

theorem witness_ProfileIntervalMovesHoldsAndFollows :
    steady State.reset ∧ (∀ a, Still (State.reset.axis a)) ∧ (∀ a, (State.reset.axis a).feTimer = none)
      ∧ Driven ((withAxis { restAxis with owner := .gallery }).axis 0) ∧ Still ((withAxis { restAxis with owner := .gallery }).axis 0)
      ∧ ¬ Driven ((withAxis restAxis).axis 0) ∧ ((withAxis restAxis).axis 0).state ≠ .unconfigured
      ∧ steady (toward 1000) ∧ Settled (toward 16) ∧ (∀ b, b ≠ 0 → Still ((toward 1000).axis b)) ∧ (∀ a, ((toward 1000).axis a).feTimer = none)
      ∧ Driven ((toward 1000).axis 0) ∧ ((toward 1000).axis 0).stopReq = none ∧ ((toward 1000).axis 0).vel = 0
      ∧ normalVel 16 (((toward 1000).axis 0).effVmax 100) 1000 0 < 1000
      ∧ 16 ≤ normalVel 16 (((toward 16).axis 0).effVmax 100) 16 0 ∧ (toward 16).gallery.mode = .closed := by decide +kernel
theorem witness_NotJamming : ∀ a, NotJamming ((toward 1000).axis a) := by
  intro a n h
  have : ∀ a, ((toward 1000).axis a).feTimer = none := by decide +kernel
  rw [this a] at h
  exact absurd h (by simp)

/-- One axis in motion for the gallery, every other unconfigured and so still, no following-error timer running. -/
def alone (x : Axis) : State := withAxis { x with owner := .gallery }
theorem alone_premises : ∀ x ∈ [AxState.moving, .homing, .stopping],
    let s := alone { movingAxis with state := x }
    steady s ∧ Settled s ∧ (∀ b, (s.axis b).feTimer = none) ∧ (∀ b, b ≠ 0 → Still (s.axis b)) ∧ Driven (s.axis 0)
      ∧ s.gallery.mode = .closed ∧ (∃ i, s.slot i = none) := by decide +kernel

theorem witness_ProfileIntervalReversesAndStops :
    let r : Axis := { movingAxis with vel := 50, cmd := 30000 }
    let l : Axis := { r with cmd := 255990 }
    let k (q : StopReq) (v : Nat) : Axis := { movingAxis with state := .stopping, stopReq := some q, vel := v }
    let p : Axis := { k .discard 50 with cmd := 255990 }
    (r.state = .moving ∧ r.stopReq = none ∧ r.target = some 100 ∧ r.vel ≠ 0 ∧ r.negative = false ∧ 100 * 256 ≤ r.cmd
        ∧ r.cmd + (50 - 16) ≤ r.cfg.softMax * 256)
      ∧ (l.homed = true ∧ l.cfg.softMax * 256 < l.cmd + (50 - 16))
      ∧ (∀ q ∈ [StopReq.keep, .discard], (k q 50).stopReq = some q ∧ 50 - 16 ≠ 0 ∧ (k q 16).vel - (k q 16).cfg.acc = 0)
      ∧ (p.stopReq = some .discard ∧ p.cfg.softMax * 256 < p.cmd + (50 - 16)) := by decide +kernel

/-- A homing at rest after its capture, under its DISCARD request. -/
def captured (count : Int) (lost : Bool) (p : HomingPhase) : State :=
  alone { restAxis with state := .homing, homed := false, phase := some p, stopReq := some .discard, homingLost := lost, cmd := count * 256 }

theorem witness_HomingsParkingsAndWaitsEnd :
    let good := captured 0 false .captured
    let out := captured 2000 false .captured
    let lost := captured 0 true .seek
    let early := captured 0 false .away
    (∀ s ∈ [good, out, lost, early], (∀ b, (s.axis b).feTimer = none) ∧ (∀ b, b ≠ 0 → Still (s.axis b)) ∧ Driven (s.axis 0)
        ∧ s.work = {} ∧ Settled s ∧ s.gallery.mode = .closed ∧ (s.axis 0).state = .homing ∧ (s.axis 0).homed = false
        ∧ (s.axis 0).owner = .gallery)
      ∧ ((good.axis 0).stopReq = some .discard ∧ (good.axis 0).vel ≤ (good.axis 0).cfg.acc ∧ (good.axis 0).homingLost = false
        ∧ (good.axis 0).phase = some .captured ∧ (good.axis 0).cfg.softMin ≤ 0 ∧ 0 ≤ (good.axis 0).cfg.softMax)
      ∧ (out.axis 0).cfg.softMax < (out.axis 0).cmd / 256 ∧ (lost.axis 0).homingLost = true
      ∧ (early.axis 0).phase ≠ some .captured := by decide +kernel
theorem witness_Homings_arrive_open_and_close :
    let seek := alone { restAxis with state := .homing, homed := false, phase := some .seek, target := some 0, cmd := 16 }
    let opens := (captured 0 false .captured).setGallery { mode := .opening, safetyFixed := true, cfg := { capacity := 40 } }
    let park := ((toward 16).setGallery { mode := .closing, closing := .parking, cfg := { capacity := 40 } })
    ((∀ b, (seek.axis b).feTimer = none) ∧ (∀ b, b ≠ 0 → Still (seek.axis b)) ∧ Driven (seek.axis 0) ∧ Settled seek
        ∧ seek.gallery.mode = .closed ∧ (seek.axis 0).state = .homing ∧ (seek.axis 0).homed = false)
      ∧ ((seek.axis 0).stopReq = none ∧ (seek.axis 0).target = some 0 ∧ (seek.axis 0).vel = 0
        ∧ 16 ≤ normalVel 16 ((seek.axis 0).effVmax 100) 16 0)
      ∧ (opens.gallery.mode = .opening ∧ opens.admission.homingWait = 0 ∧ opens.admission.parkingWait = 0
        ∧ opens.admission.queue = [] ∧ ∀ b, b ≠ 0 → (opens.axis b).owner ≠ .gallery)
      ∧ (park.gallery.mode = .closing ∧ park.gallery.closing = .parking ∧ park.admission.homingWait = 0
        ∧ park.admission.parkingWait = 0 ∧ (park.axis 0).state = .moving ∧ (park.axis 0).phase = none ∧ (park.axis 0).owner = .gallery
        ∧ (∀ b, b ≠ 0 → (park.axis b).owner ≠ .gallery) ∧ park.work = {}) := by decide +kernel

/-- The test station with its axis one interval before its target, or before the end of its stop. -/
def ending (y : StState) (cause : Option StopCause) (p : Player) (x : Axis) : State :=
  let s := inState y
  let s := (s.setAxisQuiet 0 { x with owner := .station 0 }).setStation 0 { s.station 0 with cause := cause, player := p }
  { s with store := [⟨12, 2⟩, ⟨13, 1⟩], admission := { hold := true } }

theorem witness_Homings_waits_and_stops :
    let m : Axis := { restAxis with state := .moving, target := some 10, cmd := 2544 }
    let h : Axis := { restAxis with state := .stopping, target := some 100, stopReq := some .discard, vel := 16 }
    let w := ending .running none { state := .playing, wait := .axes, waitAxes := 1 } m
    let two := ending .running none { state := .playing, wait := .axes, waitAxes := 3 } m
    let f := ending .running none { state := .playing, wait := .finish, waitAxes := 1 } m
    let c (q : StopCause) := ending .stopping (some q) { state := .aborted } h
    let fault := (c .fault).setAxisQuiet 1 { restAxis with state := .faulted }
    let fault := fault.setStation 0 { fault.station 0 with cfg := { (fault.station 0).cfg with axes := 3 } }
    (∀ s ∈ [w, two, f, c .controlled, c .safety, fault], (∀ b, (s.axis b).feTimer = none) ∧ (∀ b, b ≠ 0 → Still (s.axis b))
        ∧ Driven (s.axis 0) ∧ s.work = {} ∧ steady s ∧ drainsOn s 0 ∧ (s.axis 0).owner = .station 0
        ∧ (∀ b, b ≠ 0 → (s.axis b).owner = .station 0 → Resting (s.axis b)) ∧ (s.station 0).cfg.cooldown ≠ 0)
      ∧ (m.stopReq = none ∧ m.vel = 0 ∧ 16 ≤ normalVel 16 (m.effVmax 100) 16 0)
      ∧ ((∀ b : AxisId, hasBit (w.station 0).player.waitAxes b.val = true → b = 0)
        ∧ 0 + 1 < 2 ^ (w.station 0).cfg.sizeCode ∧ u8 (w.stepRecord 1) 0 = 2 ∧ u16 (w.stepRecord 1) 1 = 1)
      ∧ (hasBit (two.station 0).player.waitAxes 1 = true ∧ hasBit (two.station 0).player.reported 1 = false)
      ∧ (h.stopReq = some .discard ∧ h.vel ≤ h.cfg.acc) ∧ inSet fault 0 1 ∧ (fault.axis 1).healthy = false := by decide +kernel

theorem witness_JamFaultsTheAxis :
    let g := withAxis { movingAxis with owner := .gallery, feTimer := some 200 }
    let p := ((playing { state := .playing }).setAxisQuiet 0 { movingAxis with feTimer := some 200 }).setAxisQuiet 1 movingAxis
    (State.reset.axis 0).state = .unconfigured
      ∧ (g.axis 0).state ≠ .unconfigured ∧ Driven (g.axis 0) ∧ (g.axis 0).feTimer = some 200 ∧ (g.axis 0).cfg.feTime ≤ 200
      ∧ (g.axis 0).owner = .gallery ∧ g.gallery.mode = .closed ∧ Settled g ∧ (∃ i, g.slot i = none)
      ∧ Driven (p.axis 0) ∧ (p.axis 0).owner = .station 0 ∧ (p.station 0).state = .running ∧ p.gallery.mode = .openMode
      ∧ p.work = {} ∧ (∃ b, b ≠ 0 ∧ (p.axis b).owner = .station 0 ∧ (p.axis b).vel ≠ 0)
      ∧ (let o := p.setStation 1 { cfg := { enabled := true, axes := 1 }, state := .ready }
         (o.axis 0).homed = true ∧ inSet o 1 0 ∧ (o.station 1).state = .ready ∧ ¬ inSet o 2 0) := by decide +kernel

theorem witness_EncoderTransitionsCount :
    let n := withAxis restAxis
    (State.reset.axis 0).state = .unconfigured ∧ (n.axis 0).state ≠ .unconfigured ∧ (n.bridge 0).held = none
      ∧ ((encoderAt 119).bridge 0).held = some (false, false) ∧ (∀ st, ((encoderAt 119).station st).player.trigger = none)
      ∧ ((encoderAt 119).bridge 0).err ≠ 128 ∧ (true, false) = nextPhase (false, false) ∧ (false, false) = nextPhase (false, true)
      ∧ (true, true) = (!false, !false) ∧ ((encoderAt 119).bridge 0).err < 120 ∧ ((encoderAt 246).bridge 0).err < 247
      ∧ 255 ≤ ((encoderAt 255).bridge 0).err ∧ 247 ≤ ((encoderAt 254).bridge 0).err ∧ ((encoderAt 254).bridge 0).err < 255
      ∧ ((encoderAt 254).axis 0).owner = .none ∧ ((encoderAt 254).axis 0).state ≠ .faulted ∧ Settled (encoderAt 254)
      ∧ ((encoderAt 128).bridge 0).err = 128 ∧ alertKeysDistinct (encoderAt 128).alerts = true
      ∧ 120 ≤ ((encoderAt 120).bridge 0).err ∧ ((encoderAt 127).bridge 0).err < 128 ∧ (∃ i, (encoderAt 120).slot i = none) := by
  decide +kernel
/-- The trigger of ST0's show, armed at count 1 on AX0 from below: the next count up reaches it. -/
theorem witness_Encoder_trigger :
    let s := (encoderAt 0).setStation 0 { player := { state := .playing, trigger := some ⟨0, 1, false, 1, 2⟩ } }
    let f := (encoderAt 0).setStation 0 { player := { state := .playing, trigger := some ⟨0, 5, false, 1, 2⟩ } }
    ((s.station 0).player.trigger = some ⟨0, 1, false, 1, 2⟩ ∧ (∀ o, o ≠ 0 → (s.station o).player.trigger = none)
        ∧ (true, false) = nextPhase (false, false) ∧ (s.axis 0).cfg.encInvert = false ∧ (s.bridge 0).raw + 1 + (s.axis 0).offset = 1)
      ∧ ((f.station 0).player.trigger = some ⟨0, 5, false, 1, 2⟩ ∧ (f.bridge 0).raw + 1 + (f.axis 0).offset ≠ 5) := by
  decide +kernel

/-- A GUARD line on IN8, active high and inactive. -/
def guarded : State := withLine { cfg := { role := .guard 2 }, fresh := false }

/-- A seek whose home line IN8 is inactive, a sample already taken. -/
def seeking : State :=
  let s := (withAxis { restAxis with owner := .gallery, state := .homing, homed := false, phase := some .seek }).setLine 8
    { cfg := { role := .home 0 }, fresh := false }
  { s with lines := { s.lines with sampled := true } }

theorem witness_InputSampleReadsEveryLine :
    (∀ l, ¬ Due (State.reset.line l)) ∧ (∀ l g, ¬ Opens State.reset 0 l g) ∧ (∀ l a, ¬ Edge State.reset 0 l a)
      ∧ (∀ l, ¬ Due (guarded.line l)) ∧ Opens guarded 0x100 8 2 := by decide +kernel
theorem witness_InputSample_home_edge :
    (∀ l, ¬ Due (seeking.line l)) ∧ (∀ o g, ¬ Opens seeking 0x100 o g) ∧ Edge seeking 0x100 8 0
      ∧ (∀ o b, Edge seeking 0x100 o b → o = 8) ∧ (seeking.line 8).raw = false ∧ (seeking.axis 0).state = .homing
      ∧ (seeking.axis 0).phase = some .seek ∧ (seeking.axis 0).stopReq = none ∧ steady seeking
      ∧ (∀ o, ¬ Fills seeking 0x100 o) := by decide +kernel
theorem witness_InputSample_away_edge : ∀ p ∈ [HomingPhase.away, .seek],
    let s := (seeking.setLine 8 { cfg := { role := .home 0 }, fresh := false, raw := true, debounced := true }).setAxisQuiet 0
      { restAxis with owner := .gallery, state := .homing, homed := false, phase := some p }
    (∀ l, ¬ Due (s.line l)) ∧ (∀ o g, ¬ Opens s 0 o g) ∧ Edge s 0 8 0 ∧ (∀ o b, Edge s 0 o b → o = 8)
      ∧ (s.line 8).raw = true ∧ (s.axis 0).state = .homing ∧ (s.axis 0).phase = some p ∧ (s.axis 0).stopReq = none
      ∧ steady s ∧ 1 ≤ (s.axis 0).cfg.travel ∧ (∀ o, ¬ Fills s 0 o) := by decide +kernel

/-- Two GUARD lines of group 2, IN8 inactive and IN10 whose restore has one sample to go; with `key`, IN10 is a KEY line of the
zone whose press has one sample to go. Group 3 is UNARMED in the same zone. -/
def atOneSample (key : Bool) : State :=
  let s := guarded.setLine 10 { cfg := { role := if key then .key else .guard 2 }, debounced := !key, raw := key, count := 19, fresh := false }
  if key then s else s.setGroup 2 { state := .broken, brokenLines := 0x400 }

theorem witness_InputSample_key_and_break : ∀ key ∈ [true, false],
    let s := atOneSample key
    let pins : LineSet := if key then 0x500 else 0x100
    (∀ l, ¬ Due (s.line l)) ∧ Fills s pins 10 ∧ (∀ o, Fills s pins o → o = 10) ∧ level (s.line 10) pins 10 = key
      ∧ (∀ o h, Opens s pins o h ↔ o = 8 ∧ h = 2) ∧ (∀ o a, ¬ Edge s pins o a)
      ∧ (if key then (s.line 10).cfg.role = .key
         else (s.line 10).cfg.role = .guard 2 ∧ hasBit (s.group 2).brokenLines 10 = true) := by decide +kernel

/-- A show of ST0 that owns AX0 in group 0 and AX1 in the group given, both moving; ST1 is QUEUED with AX0 in its set, ST2 READY
with no axis; a GUARD line of group 0 on IN8, the admission hold on. -/
def guardedShow (g : GroupId) : State :=
  let x : Axis := { movingAxis with cfg := { movingAxis.cfg with group := 0 } }
  let s := (openS.setAxisQuiet 0 x).setAxisQuiet 1 { x with cfg := { x.cfg with group := g } }
  let s := ((s.setStation 0
    { cfg := { enabled := true, axes := 3, sizeCode := 3 }, state := .running,
      player := { state := .playing, wait := .axes, waitAxes := 3 } }).setStation 1
    { cfg := { enabled := true, axes := 1, sizeCode := 3 }, state := .queued }).setStation 2
    { cfg := { enabled := true, sizeCode := 3 }, state := .ready }
  let s := s.setLine 8 { cfg := { role := .guard 0 }, fresh := false }
  { s with admission := { hold := true, queue := [⟨1, .visitor, 0, 1, false⟩], claimed := 6 } }

theorem witness_BreaksAndTripsStopShows : ∀ g ∈ [(0 : GroupId), 1],
    let s := guardedShow g
    let t := s.setSupply { cfg := { trip := 300, tripConfirm := 2 }, state := .normal, tripCount := 2 }
    (∀ o, ¬ Due (s.line o)) ∧ (∀ o h, Opens s 0x100 o h ↔ o = 8 ∧ h = 0) ∧ (∀ o b, ¬ Edge s 0x100 o b) ∧ Settled s
      ∧ (∀ o, ¬ Fills s 0x100 o) ∧ galleryLaws s = true ∧ (∃ i, s.slot i = none)
      ∧ t.safety.supply.state = .normal ∧ t.safety.supply.cfg.tripConfirm ≤ t.safety.supply.tripCount ∧ Settled t
      ∧ galleryLaws t = true
      ∧ (∀ a, (t.axis a).owner ≠ .none → (t.axis a).braked = false ∧ (t.axis a).state ≠ .unconfigured) := by decide +kernel
theorem witness_Break_meets_no_captured_homing : ∀ g ∈ [(0 : GroupId), 1], ∀ a,
    ¬ HomingCaptured ((guardedShow g).axis a) := by decide +kernel
theorem witness_Break_reaches_each_station : ∀ g ∈ [(0 : GroupId), 1],
    let s := guardedShow g
    (∃ a, inSet s 0 a ∧ (s.axis a).cfg.group = 0) ∧ (s.station 0).state = .running
      ∧ (∀ b, (s.axis b).owner = .station 0 → (s.axis b).braked = false ∧ (s.axis b).state ≠ .unconfigured)
      ∧ (if g = 0 then ∀ b, (s.axis b).owner = .station 0 → (s.axis b).cfg.group = 0
         else (s.axis 1).owner = .station 0 ∧ (s.axis 1).cfg.group ≠ 0 ∧ (s.axis 1).vel ≠ 0)
      ∧ (∃ a, inSet s 1 a ∧ (s.axis a).cfg.group = 0) ∧ (s.station 1).state = .queued
      ∧ (∀ a, ¬ inSet s 2 a) ∧ (∀ b, (s.axis b).owner ≠ .station 2) := by decide +kernel

theorem witness_RearmArmsTheZone :
    let b := State.reset.setGroup 2 { state := .broken, brokenLines := 0x100 }
    LinkFree State.reset ∧ 5 ≤ (5 : Byte).toNat ∧ (∀ g, (State.reset.group g).state ≠ .broken)
      ∧ (State.reset.group (State.reset.axis 0).cfg.group).state = .unarmed ∧ LinkFree b ∧ (b.group 2).state = .broken
      ∧ (b.group 2).zone = 0 := by decide +kernel
/-- A HALTED station whose group is UNARMED: its axis is healthy or faulted, a rest is owed or not. -/
def haltedS (owed : Bool) (x : AxState) : State :=
  let s := (inState .halted).setAxisQuiet 0 { restAxis with state := x }
  let s := s.setStation 0 { s.station 0 with restOwed := owed }
  let s := axisIds.foldl (fun s a => s.setAxisQuiet a { s.axis a with braked := true })
    (groupIds.foldl (fun s g => s.setGroup g { state := .unarmed }) s)
  { s with admission := { hold := true } }
theorem witness_Rearm_halted : ∀ x ∈ [AxState.idle, .faulted], ∀ o : Bool,
    let s := haltedS o x
    LinkFree s ∧ steady s ∧ (∀ a, (s.axis a).braked = s.shouldBrake a) ∧ (s.station 0).state = .halted
      ∧ (s.station 0).cfg.zone = 0 ∧ ¬ SupplyOut s ∧ inSet s 0 0 ∧ (∀ a, inSet s 0 a → a = 0)
      ∧ (s.group (s.axis 0).cfg.group).state = .unarmed ∧ (s.group (s.axis 0).cfg.group).zone = 0
      ∧ (s.axis 0).healthy = decide (x = .idle) ∧ (s.station 0).restOwed = o ∧ (s.station 1).state ≠ .halted := by decide +kernel

theorem witness_SupplySamplesAreCounted : ¬ ConfirmDue State.reset.safety.supply ∧ ¬ ConfirmDue (supplyIn .low 7 1).safety.supply
    ∧ ¬ ConfirmDue (supplyIn .tripped 8 2).safety.supply ∧ ¬ ConfirmDue (supplyIn .recovering 0 0).safety.supply := by
  decide +kernel

theorem witness_SupplyChangesActOnThePart :
    let w := supplyIn .normal 8 0
    let l := supplyIn .low 8 1
    let t := supplyIn .low 0 2
    let r := supplyIn .recovering 0 0
    (¬ State.reset.safety.supply.tripCount ≥ State.reset.safety.supply.cfg.tripConfirm)
      ∧ (w.safety.supply.state = .normal ∧ w.safety.supply.cfg.warnConfirm ≤ w.safety.supply.warnCount
        ∧ ¬ w.safety.supply.cfg.tripConfirm ≤ w.safety.supply.tripCount ∧ steady w ∧ ∃ i, w.slot i = none)
      ∧ (l.safety.supply.state = .low ∧ l.safety.supply.cfg.warnConfirm ≤ l.safety.supply.warnCount
        ∧ ¬ l.safety.supply.cfg.tripConfirm ≤ l.safety.supply.tripCount ∧ steady l ∧ l.gallery.mode ≠ .openMode)
      ∧ (t.safety.supply.state = .low ∧ t.safety.supply.cfg.tripConfirm ≤ t.safety.supply.tripCount ∧ Settled t
        ∧ (∃ i, t.slot i = none) ∧ ∀ a, (t.axis a).owner = .none ∧ ¬ HomingCaptured (t.axis a))
      ∧ (r.safety.supply.state = .recovering ∧ ranOut r r.safety.supply.recoveryAt = true ∧ steady r ∧ r.gallery.mode ≠ .openMode
        ∧ (∀ a, (r.axis a).owner = .none)
        ∧ ∀ a, (r.group (r.axis a).cfg.group).state ≠ .clear → (r.axis a).braked = true) := by decide +kernel

/-- Every entry of a table of jams of AX0 has another kind and source than a call. -/
theorem unheld_full (sev : Severity) (i : Fin 16) : Unheld (fullTable sev) .hostCall (.host i) := by
  intro j e h
  have : ∀ j, ((fullTable sev).slot j).all (fun e => decide (e.kind ≠ .hostCall)) = true := by cases sev <;> decide +kernel
  have h2 := this j
  rw [h] at h2
  exact Or.inl (by simpa using h2)

/-- A table full but for slot 5 and the slots above. -/
def halfTable : State := (List.finRange 5).foldl (fun s i => s.setSlot (i.castLE (by decide)) (some (entry .axisJam (.axis 0) .urgent)))
  State.reset
theorem unheld_half (i : Fin 16) : Unheld halfTable .hostCall (.host i) := by
  intro j e h
  have : ∀ j, (halfTable.slot j).all (fun e => decide (e.kind ≠ .hostCall)) = true := by decide +kernel
  have h2 := this j
  rw [h] at h2
  exact Or.inl (by simpa using h2)

theorem witness_AlertCallMergesStoresOrLoses :
    let m := State.reset.setSlot 3 (some { entry .hostCall (.host 15) .info with active := false, acked := true })
    LinkFree State.reset ∧ 16 ≤ (16 : Byte).toNat ∧ LinkFree m ∧ alertKeysDistinct m.alerts = true
      ∧ m.slot 3 = some { entry .hostCall (.host 15) .info with active := false, acked := true }
      ∧ LinkFree halfTable ∧ halfTable.slot 5 = none ∧ (∀ k, k < 5 → halfTable.slot k ≠ none)
      ∧ LinkFree (fullTable .info) ∧ (∀ k, (fullTable .info).slot k = some (entry .axisJam (.axis 0) .info))
      ∧ (entry .axisJam (.axis 0) .info).severity = .info ∧ LinkFree (fullTable .attend)
      ∧ (∀ k, (fullTable .attend).slot k = some (entry .axisJam (.axis 0) .attend))
      ∧ (entry .axisJam (.axis 0) .attend).severity ≠ .info := by decide +kernel
/-- In the table full of INFO entries of one age, slot 0 holds the oldest. -/
theorem witness_AlertCall_oldest (k : SlotId) (f : Alert) (h : (fullTable .info).slot k = some f) :
    ((fullTable .info).now - f.first).toNat < ((fullTable .info).now - (entry .axisJam (.axis 0) .info).first).toNat
      ∨ f.first = (entry .axisJam (.axis 0) .info).first ∧ 0 ≤ k := by
  have : ∀ k, (fullTable .info).slot k = some (entry .axisJam (.axis 0) .info) := by decide +kernel
  rw [this k] at h
  cases h
  exact Or.inr ⟨rfl, Fin.zero_le k⟩

theorem witness_AlertAckAcknowledges :
    let s := State.reset.setSlot 23 (some (entry .axisJam (.axis 0) .urgent))
    LinkFree s ∧ 24 ≤ (24 : Byte).toNat ∧ 4 ≤ (4 : Byte).toNat ∧ 3 ≤ (3 : Byte).toNat ∧ s.slot 0 = none
      ∧ s.slot 23 = some (entry .axisJam (.axis 0) .urgent) ∧ (entry .axisJam (.axis 0) .urgent).acked = false
      ∧ ofZone 0 (entry .axisJam (.axis 0) .urgent) ∧ ¬ ofZone 1 (entry .axisJam (.axis 0) .urgent) := by decide +kernel

theorem witness_MasksQuietAndOverflow :
    let o : State := { State.reset with alerts := { overflow := true } }
    let q : State := { fullTable .urgent with alerts := { (fullTable .urgent).alerts with quiet := true } }
    let g := State.reset.setSlot 0 (some (entry .guardBroken (.group 0) .attend))
    LinkFree State.reset ∧ (1 : Byte) ≠ 0 ∧ State.reset.alerts.quiet = false ∧ o.alerts.overflow = true
      ∧ q.alerts.overflow = false ∧ q.alerts.quiet = true ∧ q.slot 0 = some (entry .axisJam (.axis 0) .urgent)
      ∧ g.slot 0 = some (entry .guardBroken (.group 0) .attend) ∧ ofZone 0 (entry .guardBroken (.group 0) .attend)
      ∧ (∀ i, State.reset.slot i = none) ∧ hasBit State.reset.alerts.masks 0 = false := by decide +kernel
/-- Something calls while the overflow flag is set and quiet is off. -/
theorem witness_Calls : Calls { overflow := true } ∧ ¬ Calls {} :=
  ⟨⟨rfl, Or.inl rfl⟩, fun h => by
    have none_held : ∀ i, ({} : AlertUnit).slots.get i = none := by decide +kernel
    obtain ⟨-, h | ⟨i, e, h, -⟩⟩ := h
    · exact absurd h (by decide)
    · rw [none_held i] at h; cases h⟩

theorem witness_AlertTimersRunOut :
    let e : Alert := { entry .axisJam (.axis 0) .attend with deadline := some 0 }
    let s := State.reset.setSlot 0 (some e)
    let l := withLine { cfg := { role := .key }, stuckAt := some 0 }
    let c : State := { State.reset with alerts := { overflow := true, chimeRepeatAt := some 0 } }
    let n : State := { State.reset with alerts := { chimeRepeatAt := some 0 } }
    State.reset.slot 0 = none ∧ s.slot 0 = some e ∧ ranOut s e.deadline = true ∧ s.alerts.quiet = false ∧ e.acked = false
      ∧ e.zone = .zone 0 ∧ hasBit s.alerts.masks 0 = false
      ∧ ranOut State.reset (State.reset.line 8).stuckAt = false ∧ ranOut l (l.line 8).stuckAt = true ∧ (∀ j, l.slot j = none)
      ∧ ranOut State.reset State.reset.alerts.chimeRepeatAt = false ∧ ranOut c c.alerts.chimeRepeatAt = true
      ∧ ranOut n n.alerts.chimeRepeatAt = true := by decide +kernel

theorem witness_LampsSoundAndFlashRunOn :
    let p : List (LampId × LampState) := [(1, .on), (23, .flash)]
    LinkFree State.reset ∧ 1 ≤ p.length ∧ p.length ≤ 24 ∧ (p.map fun m => m.1).Nodup
      ∧ ¬ ([(1, LampState.on), (1, .off)].map fun m : LampId × LampState => m.1).Nodup
      ∧ LinkFree (playing {}) ∧ Playing (playing {}) 0 ∧ (1 : LampId) ∈ ((playing {}).station 0).cfg.lampLines
      ∧ (List.finRange 24).length ≤ 24 ∧ (List.finRange 24).Nodup := by decide +kernel

theorem witness_TonePlaysOnItsZone : LinkFree State.reset ∧ (4000 : Nat) < 65536 ∧ (65535 : Nat) < 65536 := by decide

theorem witness_QueriesReportTheState : LinkFree State.reset ∧ (State.reset.station 0).cfg.group.length ≤ 8
    ∧ axisInRange (State.reset.axis 0).cfg = true ∧ 7 ≤ 7 ∧ 1 ≤ 1 ∧ 1 ≤ 4 ∧ 7 + 1 ≤ 8 ∧ 39 + 1 ≤ 40 ∧ 1 ≤ 3 ∧ 23 + 1 ≤ 24 := by
  decide +kernel

/-! ### The same premises in OPENING and CLOSING -/

/-- A state taken into a mode in which something still goes on: ST11 plays, GALLERY owns AX7, and AX0 waits to home and to park. -/
def inMode (m : Mode × ClosePhase) (s : State) : State :=
  let t := (s.setStation 11 { state := .running }).setAxisQuiet 7 { owner := .gallery }
  { t with gallery := { t.gallery with mode := m.1, closing := m.2 }, admission := { homingWait := 1, parkingWait := 1 } }

/-- OPENING, and CLOSING at each of its phases. -/
def otherModes : List (Mode × ClosePhase) :=
  [(.opening, .none), (.closing, .draining), (.closing, .stoppingHoming), (.closing, .parking)]

theorem witness_VisitorPress_ignored_in_every_mode : ∀ m ∈ otherModes,
    let s := inMode m (pressOn .ready 2 4 0)
    Due (s.line 8) ∧ (s.line 8).raw = true ∧ (s.line 8).cfg.role = .demand 0 ∧ steady s ∧ s.gallery.mode ≠ .openMode := by
  decide +kernel
theorem witness_AxisClear_in_every_mode : ∀ m ∈ otherModes,
    let s := inMode m ((inState .outOfService).setAxisQuiet 0 { restAxis with state := .faulted })
    LinkFree s ∧ (s.axis 0).state = .faulted ∧ (s.axis 0).homed = true ∧ steady s ∧ inSet s 0 0
      ∧ (s.station 0).state = .outOfService ∧ (s.station 0).restOwed = false
      ∧ (∀ b, inSet s 0 b → b ≠ 0 → (s.axis b).healthy = true) := by decide +kernel
theorem witness_StationTimers_in_every_mode : ∀ m ∈ otherModes,
    let c := inMode m (timed .cooldown true)
    let r := inMode m (timed .resting false)
    ((c.station 0).state = .cooldown ∧ ranOut c (c.station 0).cooldownAt = true ∧ steady c)
      ∧ ((r.station 0).state = .resting ∧ ranOut r (r.station 0).restAt = true ∧ (r.station 0).restOwed = false ∧ steady r) := by
  decide +kernel
/-- A show that plays on in CLOSING, at its next step and at its END. -/
theorem witness_WaitTimeExpiry_in_closing :
    let w := inMode (.closing, .draining) (waiting 0 0 none [⟨12, 2⟩, ⟨13, 1⟩])
    let e := inMode (.closing, .draining) ((waiting 0 0 none []).setAxisQuiet 0 restAxis)
    ((w.station 0).player.state = .playing ∧ (w.station 0).player.wait = .time ∧ ranOut w (w.station 0).player.deadline = true
        ∧ steady w ∧ u8 (w.stepRecord 1) 0 = 2 ∧ u16 (w.stepRecord 1) 1 = 1)
      ∧ (steady e ∧ drainsOn e 0 ∧ u8 (e.stepRecord 1) 0 = 0 ∧ (∀ a, (e.axis a).owner ≠ .station 0)
        ∧ (e.station 0).cfg.cooldown ≠ 0) := by decide +kernel
theorem witness_ShowSteps_in_closing :
    let s := inMode (.closing, .draining) (atStep [1, 0, 0xFF, 50, 0, 100] showS)
    (s.station 0).player.state = .playing ∧ (s.station 0).player.wait = .time ∧ ranOut s (s.station 0).player.deadline = true
      ∧ steady s ∧ u8 (s.stepRecord 1) 0 = 1 ∧ inSet s 0 0 ∧ (s.axis 0).state ≠ .faulted ∧ (s.axis 0).braked = false
      ∧ u8 (s.stepRecord 2) 0 = 2 ∧ u16 (s.stepRecord 2) 1 = 1 := by decide +kernel
theorem witness_Homings_in_closing :
    let f := inMode (.closing, .draining) (ending .running none { state := .playing, wait := .finish, waitAxes := 1 }
      { restAxis with state := .moving, target := some 10, cmd := 2544 })
    (∀ b, (f.axis b).feTimer = none) ∧ (∀ b, b ≠ 0 → Still (f.axis b)) ∧ Driven (f.axis 0) ∧ steady f ∧ drainsOn f 0
      ∧ (f.axis 0).owner = .station 0 ∧ (f.station 0).state = .running ∧ (f.station 0).player.wait = .finish
      ∧ (∀ b, b ≠ 0 → (f.axis b).owner = .station 0 → Resting (f.axis b)) ∧ (f.station 0).cfg.cooldown ≠ 0 := by decide +kernel
theorem witness_Jam_in_closing :
    let p := inMode (.closing, .draining)
      (((playing { state := .playing }).setAxisQuiet 0 { movingAxis with feTimer := some 200 }).setAxisQuiet 1 movingAxis)
    Driven (p.axis 0) ∧ (p.axis 0).owner = .station 0 ∧ (p.axis 0).feTimer = some 200 ∧ (p.axis 0).cfg.feTime ≤ 200
      ∧ (p.station 0).state = .running ∧ p.work = {} ∧ p.gallery.mode = .closing ∧ p.gallery.closing = .draining
      ∧ (∃ b, b ≠ 0 ∧ (p.axis b).owner = .station 0 ∧ (p.axis b).vel ≠ 0) := by decide +kernel

/-! ### CLOSE with paused shows, RELEASE at each wait, beacons -/

/-- A PAUSED show with an axis in its stop, or at rest; a QUEUED station that owes a rest beside it. -/
theorem witness_Close_paused :
    let x : Axis := { movingAxis with state := .stopping, stopReq := some .keep }
    let m := (pausedAt x).setStation 1 { state := .queued, restOwed := true }
    let r := (pausedAt { restAxis with owner := .station 0, target := some 100 }).setStation 1 { state := .running }
    (LinkFree m ∧ m.gallery.mode = .openMode ∧ m.work = {} ∧ (m.station 0).state = .paused ∧ (m.axis 0).owner = .station 0
        ∧ (m.axis 0).vel ≠ 0 ∧ (m.station 1).state = .queued ∧ (m.station 1).restOwed = true)
      ∧ (LinkFree r ∧ r.gallery.mode = .openMode ∧ r.work = {} ∧ (r.station 1).state = .running ∧ (r.station 0).state = .paused
        ∧ (r.station 0).cfg.cooldown ≠ 0
        ∧ ∀ a, (r.axis a).owner = .station 0 → (r.axis a).vel = 0 ∧ (r.axis a).state = .idle) := by decide +kernel
theorem witness_Close_notices : (∀ st, ((inState .ready).station st).state ≠ .queued)
    ∧ (∀ st, (standby.station st).state ≠ .halted) ∧ (∀ st, (toHome.station st).state ≠ .halted) := by decide +kernel

/-- The test station PAUSED at a wait, its axis as given, with a WAIT_TIME of 1 ms as its next step. -/
def pausedIn (w : WaitKind) (x : Axis) : State :=
  let s := pausedAt x
  { s.setStation 0 { s.station 0 with player := { state := .held, wait := w, waitAxes := 1 } } with
    store := [⟨12, 2⟩, ⟨13, 1⟩], admission := { hold := true } }

theorem witness_Release_at_each_wait :
    let short : Axis := { restAxis with owner := .station 0, target := some 100 }
    let there : Axis := { restAxis with owner := .station 0 }
    (∀ w ∈ [WaitKind.time, .axes, .finish], ∀ x ∈ [short, there],
        LinkFree (pausedIn w x) ∧ ((pausedIn w x).station 0).state = .paused ∧ (pausedIn w x).gallery.mode = .openMode
          ∧ (pausedIn w x).work = {} ∧ ((pausedIn w x).station 0).player.wait = w ∧ ((pausedIn w x).axis 0).owner = .station 0
          ∧ ((pausedIn w x).station 0).player.remaining = 0 ∧ steady (pausedIn w x)
          ∧ ((pausedIn w x).station 0).cfg.cooldown ≠ 0
          ∧ (∀ a, ((pausedIn w x).axis a).owner = .station 0 → a = 0)
          ∧ (∀ a : AxisId, hasBit ((pausedIn w x).station 0).player.waitAxes a.val = true → a = 0)
          ∧ 0 + 1 < 2 ^ ((pausedIn w x).station 0).cfg.sizeCode ∧ u8 ((pausedIn w x).stepRecord 1) 0 = 2
          ∧ u16 ((pausedIn w x).stepRecord 1) 1 = 1)
      ∧ ¬ Resting (resumed short) ∧ Resting (resumed there) := by decide +kernel

/-- An entry that makes a beacon STEADY, one that makes it flash, and one that leaves it OFF. -/
theorem witness_beacons :
    let t (e : Alert) := State.reset.setSlot 0 (some e)
    let a := entry .axisJam (.axis 0) .attend
    let u := { entry .guardBroken (.group 0) .urgent with acked := true }
    let i := { entry .stationRested (.station 0) .info with active := false }
    (∀ e ∈ [a, u, i], (t e).slot 0 = some e ∧ ofZone 0 e ∧ (t e).alerts.overflow = false ∧ (t e).alerts.quiet = false
        ∧ hasBit (t e).alerts.masks 0 = false ∧ ∀ j, j ≠ 0 → (t e).slot j = none)
      ∧ (a.acked = false ∧ a.severity = .attend) ∧ (u.acked = true ∧ u.active = true ∧ u.severity = .urgent)
      ∧ (i.severity = .info) := by decide +kernel

/-- R161: STEADY for an acknowledged active URGENT entry, FLASH before its acknowledgement, lit with the flash phase. -/
theorem test_beacon_steady_once_acknowledged :
    let s := State.reset.setSlot 0 (some (entry .guardBroken (.group 0) .urgent))
    s.alerts.beacon 0 = .flash ∧ (run (.alertAck 1 [0, 0]) s).alerts.beacon 0 = .steady
      ∧ (run (.alertAck 1 [0, 0]) s).beaconLit 0 = true := by decide +kernel
/-- R108: a change to DRIVE that lapses leaves the buffered duty 0. -/
theorem test_lapsed_drive_leaves_duty_0 :
    let s := ((withAxis { movingAxis with owner := .gallery, feTimer := some 200 }).setBridge 0 { out := .brake, buffered := 24 })
    ((run (.followingErrorJam 0) s).bridge 0).buffered = 0 := by decide +kernel

/-- A GUARD line restored while another line of its group is broken; a group that was UNARMED when its line opens. -/
theorem witness_restore_with_another_broken :
    let g := (withLine (dueLine (.guard 2) false)).setGroup 2 { state := .broken, brokenLines := 0x300 }
    Due (g.line 8) ∧ steady g ∧ (g.line 8).raw = false ∧ hasBit (g.group 2).brokenLines 8 = true
      ∧ delBit (g.group 2).brokenLines 8 ≠ 0 := by decide +kernel
theorem witness_AxisMove_clamps :
    let s := closedWith restAxis
    (∃ i, s.slot i = none) ∧ (s.axis 0).homed = true ∧ clampInt (s.axis 0).cfg.softMin (s.axis 0).cfg.softMax 1001 ≠ 1001
      ∧ clampInt (s.axis 0).cfg.softMin (s.axis 0).cfg.softMax 1000 = 1000 := by decide +kernel

/-! ### Fields out of range -/

/-- A list of zeros with one byte set. -/
def zeros (n k : Nat) (v : Byte) : List Byte := (List.replicate n 0).set k v

theorem witness_StationOutOfRange : LinkFree State.reset ∧ State.reset.gallery.mode = .closed
    ∧ (∀ p ∈ [zeros 24 0 12, zeros 24 9 32, zeros 24 23 24], StationOutOfRange p)
    ∧ ¬ StationOutOfRange (stationBytes 11 { tripLevel := 31 }) := by decide +kernel
theorem witness_LineOutOfRange :
    (∀ p ∈ [zeros 7 0 40, lineBytes 39 { debounce := 4 }, lineBytes 39 { debounce := 101 }, [0, 4, 0, 20, 0, 0, 8]],
      LineOutOfRange p)
      ∧ ¬ LineOutOfRange (lineBytes 39 { role := .home 7, debounce := 100, stuckLimit := 120, zone := 3 }) := by decide +kernel
theorem witness_AxisOutOfRange :
    (∀ p ∈ [zeros 38 0 8, axisBytes 7 { ratedDraw := 61 }, axisBytes 7 { softMin := -5, softMax := 5, park := some 6 }],
      AxisOutOfRange p)
      ∧ ∀ p ∈ [axisBytes 7 { softMin := -5, softMax := 5, park := some 5 }, axisRequest 7 { softMin := -5, softMax := 5 } 6],
        ¬ AxisOutOfRange p := by decide +kernel
theorem witness_StepsOutOfRange : StepsOutOfRange [0, 0, 0] ∧ StepsOutOfRange [0, 0, 5] ∧ StepsOutOfRange [0xFF, 3, 2]
    ∧ ¬ StepsOutOfRange [0xFF, 3, 1] ∧ (zeros 27 2 1).length ≠ 3 + 12 * u8 (zeros 27 2 1) 2 := by decide +kernel
theorem witness_PlacesOutOfRange : PlacesOutOfRange 8 4 [8, 1] ∧ PlacesOutOfRange 8 4 [0, 5] ∧ ¬ PlacesOutOfRange 8 4 [7, 1]
    ∧ PlacesOutOfRange 24 3 [23, 2] ∧ ¬ PlacesOutOfRange 24 3 [21, 3] ∧ PlacesOutOfRange 40 40 [1, 40]
    ∧ ¬ PlacesOutOfRange 40 40 [0, 40] := by decide +kernel
theorem witness_AxisMove_out_of_range :
    Outside (-16000000) 16000000 (i32 ([0] ++ int32 16000001 ++ [0]) 1)
      ∧ ¬ Outside (-16000000) 16000000 (i32 ([0] ++ int32 16000000 ++ [0]) 1) := by decide +kernel
theorem witness_LampSet_out_of_range :
    24 ≤ u8 [1, 24, 0] (1 + 2 * 0) ∧ 3 ≤ u8 [1, 23, 3] (2 + 2 * 0) ∧ u8 [2, 23, 2] 0 ≠ 1 := by decide

/-- R7, R23, R80, R59, R102, R144, R43: the fields tested last, refused. -/
theorem test_out_of_range_is_refused :
    (∀ c ∈ [Instr.cfgStation 1 (stationBytes 0 { ({} : StationRec) with rest := 601 }), .cfgLine 1 (lineBytes 0 { zone := 0, debounce := 101 }),
        .cfgAxis 1 (axisBytes 0 { dutymax := 1001 }), .stepWrite 1 (zeros 27 2 1), .stepRead 1 [0xFF, 3, 2],
        .axisMove 1 (zeros 6 5 2), .lampSet 1 [1, 23, 3], .queryQueue 1 [7, 2], .queryLines 1 [0, 1, 2], .queryAxis 1 [7, 2]],
      answerOf (run c State.reset) = [3]) := by decide +kernel

/-! ### The notices of OPEN -/

theorem witness_OpenArms_homes_once : (∀ b, (toHome.axis b).state = .unhomed → (toHome.axis b).homed = false)
    ∧ (∀ st, (toHome.station st).state ≠ .halted) := by decide +kernel
/-- R83, R54: one AXIS_STATE for the axis that OPEN frees and homes, with HOMING and GALLERY (codes of chapter 10), UNHOMED and
its brake cleared. -/
theorem test_OPEN_sends_one_AXIS_STATE_of_a_homing_axis :
    (((run (.openReq 1 []) (run (.noticeEnable 1 [0x7F]) toHome)).link.notices.filter fun f => f.type = 0x43 && f.payload.getD 0 0 = 0).map fun f => f.payload)
      = [[0, AxState.homing.code, Owner.gallery.code, 0, faultCode none, 0]] := by decide +kernel

end Sys2Proof.Tests
end

section
/-! What a request row does while the handler is free, and TONE (R146 to R148, R174). -/

namespace Sys2Proof.Proofs

open Sys2Proof Sys2Proof.Machine Sys2Proof.Claims

/-! ### A request that the handler takes at once (R173, R174) -/

section Request

variable {type tag : Byte} {own : List Byte → State → Ans} {p : List Byte} {s t : State} {st : Status}

/-- A free handler takes the request, and its answer becomes one reply at the end of the reply queue. -/
theorem submit_of_linkFree {all : Frame → State → Ans} {own : State → Ans} {f : Frame} (hs : LinkFree s) :
    submit all own f s =
      replied f.type f.tag (own s).payload (waitsAfter s (own s).state) (own s).effect (own s).state := by
  obtain ⟨hheld, hreplies, hresetting⟩ := hs
  have htakes : s.canTake = true := by simp [State.canTake, Config.replyQueueSize, hreplies, hresetting]
  simp only [submit, hheld, Option.isSome_none, Bool.false_eq_true, if_false, htakes, if_true]
  rfl

/-- The transmitter that is offered the queues finds nothing to send, or is idle no more (R176). -/
theorem kickTx_eq_self_or_tx_ne_idle : kickTx s = s ∨ (kickTx s).link.tx ≠ .idle := by
  by_cases hidle : s.link.tx = .idle && s.link.startedDue.isNone
  · rw [kickTx, if_pos hidle, chooseTx]
    split
    case h_1 r rs _ =>
      split
      · exact .inr (by simp)
      · split
        · exact .inr (by simp)
        · exact .inl rfl
    case h_2 =>
      split
      · exact .inr (by simp)
      · exact .inl rfl
  · exact .inl (by rw [kickTx, if_neg hidle])

/-- A command that has offered its reply to the transmitter starts nothing more when it is complete. -/
theorem kickTx_kickTx : kickTx (kickTx s) = kickTx s := by
  obtain hself | hbusy := kickTx_eq_self_or_tx_ne_idle (s := s)
  · rw [hself, hself]
  · generalize kickTx s = t at hbusy
    simp [kickTx, hbusy]

theorem request_of_linkFree (hs : LinkFree s) :
    request type own tag p s = .next
      (replied type tag (own p s).payload (waitsAfter s (own p s).state) (own p s).effect (own p s).state) := by
  rw [request, complete, submit_of_linkFree hs, replied, kickTx_kickTx]

theorem waitsAfter_self : waitsAfter s s = 0 := by simp [waitsAfter]

/-- A refusal carries its status alone, whichever status it is. -/
theorem payload_refuse : (refuse st s).payload = [st.code] := by simp [Ans.payload, refuse]

theorem request_of_refuse (hs : LinkFree s) (h : own p s = refuse st s) :
    request type own tag p s = .next (refused type tag st s) := by
  rw [request_of_linkFree hs, h, payload_refuse]
  simp only [refuse, waitsAfter_self, refused]

theorem request_of_accept (hs : LinkFree s) (h : own p s = accept t) :
    request type own tag p s = .next (accepted type tag s t) := by
  rw [request_of_linkFree hs, h]
  rfl

end Request

/-! ### The fields of a TONE payload -/

/-- Low byte first, a two-byte field carries its number back (R170). -/
theorem toNat_byte_add_toNat_byte_div {n : Nat} (h : n < 65536) :
    (byte n).toNat + 256 * (byte (n / 256)).toNat = n := by
  simp only [byte, BitVec.toNat_ofNat]
  omega

/-- The payload of a TONE as the catalogue lays it out: zone, pitch, amplitude, duration. -/
abbrev tonePayload (zone amplitude : Byte) (pitch duration : Nat) : List Byte :=
  [zone] ++ le16 pitch ++ [amplitude] ++ le16 duration

/-- A TONE's fields all lie within the ranges of R148. -/
abbrev ToneInRange (zone amplitude : Byte) (pitch duration : Nat) : Prop :=
  zone.toNat < 4 ∧ 16 ≤ pitch ∧ pitch ≤ 4000 ∧ amplitude.toNat ≤ 15 ∧ 1 ≤ duration

section Tone

variable {zone amplitude : Byte} {pitch duration : Nat} {s : State}

theorem parseTone_tonePayload (hp : pitch < 65536) (hd : duration < 65536) :
    parseTone (tonePayload zone amplitude pitch duration) =
      if h : ToneInRange zone amplitude pitch duration then
        some (⟨zone.toNat, h.1⟩, pitch, amplitude.toNat, duration)
      else none := by
  have hzone : u8 (tonePayload zone amplitude pitch duration) 0 = zone.toNat := rfl
  have hpitch : u16 (tonePayload zone amplitude pitch duration) 1 = pitch := toNat_byte_add_toNat_byte_div hp
  have hamplitude : u8 (tonePayload zone amplitude pitch duration) 3 = amplitude.toNat := rfl
  have hduration : u16 (tonePayload zone amplitude pitch duration) 4 = duration := toNat_byte_add_toNat_byte_div hd
  have hlast : duration ≤ 65535 := by omega
  rw [parseTone, hzone, hpitch, hamplitude, hduration]
  by_cases hz : zone.toNat < 4
  · have hfields : (inRange 16 4000 pitch && amplitude.toNat ≤ 15 && inRange 1 65535 duration) = true ↔
        ToneInRange zone amplitude pitch duration := by
      simp [inRange, ToneInRange, hz, hlast, and_assoc]
    simp only [toFin?, hz, dite_true, hfields]
    exact dite_eq_ite.symm
  · have hout : ¬ ToneInRange zone amplitude pitch duration := fun h => hz h.1
    simp only [toFin?, hz, dite_false, hout]

/-- The mode is nowhere asked for: only the fields decide. -/
theorem answerTone_tonePayload (hp : pitch < 65536) (hd : duration < 65536) :
    answerTone (tonePayload zone amplitude pitch duration) s =
      if h : ToneInRange zone amplitude pitch duration then
        accept (playTone ⟨zone.toNat, h.1⟩ pitch amplitude.toNat duration s)
      else refuse .badValue s := by
  have hlength : (tonePayload zone amplitude pitch duration).length = 6 := rfl
  rw [answerTone, lengthIs, if_pos hlength, parseTone_tonePayload hp hd]
  by_cases h : ToneInRange zone amplitude pitch duration
  · simp only [dif_pos h]
  · simp only [dif_neg h]

end Tone

theorem exec_tone (tag : Byte) (p : List Byte) (s : State) : exec (.tone tag p) s = request 0x2C answerTone tag p s := by
  rfl

/-- What `playTone` writes is what R146 and R147 say, and the wave stands at some level (log 15). -/
theorem exists_level_playTone_eq_setTone (z : ZoneId) (pitch amplitude duration : Nat) (s : State) :
    ∃ level : Bool, playTone z pitch amplitude duration s = s.setTone z
      { playing := true, pitch := pitch, amplitude := amplitude, effective := amplitude * s.volume z / 15,
        endTime := s.now + BitVec.ofNat 32 duration, level := level } :=
  ⟨_, rfl⟩

/-- Settles O59: a free handler answers at once, the fields alone decide, and an accepted tone is written to its output. -/
theorem tonePlaysOnItsZone : Obligations.TonePlaysOnItsZone := by
  unfold Obligations.TonePlaysOnItsZone
  intro s tag zone amplitude pitch duration hs hp hd
  simp only [exec_tone]
  have hanswer := answerTone_tonePayload (zone := zone) (amplitude := amplitude) (s := s) hp hd
  by_cases h : ToneInRange zone amplitude pitch duration
  · obtain ⟨level, hplay⟩ := exists_level_playTone_eq_setTone ⟨zone.toNat, h.1⟩ pitch amplitude.toNat duration s
    rw [dif_pos h, hplay] at hanswer
    refine ⟨level, ?_⟩
    rw [dif_pos h]
    exact request_of_accept hs hanswer
  · rw [dif_neg h] at hanswer
    refine ⟨false, ?_⟩
    rw [dif_neg h]
    exact request_of_refuse hs hanswer

end Sys2Proof.Proofs
end

section
/-! The link's own requests IDENT, STATUS and NOTICE_ENABLE (R178, R182, R183), and what the enables and the notice queue let
through (R177). -/

namespace Sys2Proof.Proofs

open Sys2Proof Sys2Proof.Machine Sys2Proof.Claims

/-! ### A query that the handler takes at once (R174, R175) -/

section Query

variable {type tag : Byte} {own : List Byte → State → Ans} {p data : List Byte} {s t : State} {n : Nat} {k : Ans}

theorem lengthIs_of_eq (h : p.length = n) : lengthIs n p k s = k := if_pos h

theorem lengthIs_of_ne (h : p.length ≠ n) : lengthIs n p k s = refuse .badLength s := if_neg h

theorem waitsAfter_of_notices_eq (h : t.link.notices = s.link.notices) : waitsAfter s t = 0 := by
  simp [waitsAfter, h]

/-- Data travels behind the status OK, and a query that queues no notice leaves nothing for its reply to wait for. -/
theorem request_of_report (hs : LinkFree s) (h : own p s = report data t) (hn : t.link.notices = s.link.notices) :
    request type own tag p s = .next (reported type tag data t) := by
  have hwaits : waitsAfter s (own p s).state = 0 := by rw [h]; exact waitsAfter_of_notices_eq hn
  rw [request_of_linkFree hs, hwaits, h]
  rfl

end Query

/-! ### What is queued of a notice (R177) -/

section Notice

variable {s : State} {c : NoticeClass} {ty : Byte} {p : List Byte}

theorem noticeRoom_le (u : LinkUnit) : u.noticeRoom ≤ 32 := by
  unfold LinkUnit.noticeRoom
  split <;> decide

theorem pushNotice_of_full {f : Frame} (h : 32 ≤ s.link.notices.length) :
    pushNotice f s = s.setLink { s.link with noticesLost := true } :=
  if_neg (Nat.not_lt.mpr (Nat.le_trans (noticeRoom_le s.link) h))

theorem sendNotice_of_enabled (h : hasBit s.link.enables c.bit = true) :
    sendNotice c ty p s = pushNotice ⟨ty, 0, p⟩ s := if_pos h

theorem bit_lt_seven (c : NoticeClass) : c.bit < 7 := by cases c <;> decide

/-- The seven enables hold the bits of the byte they are taken from. -/
theorem hasBit_ofNat_toNat (b : Byte) (c : NoticeClass) : hasBit (BitVec.ofNat 7 b.toNat) c.bit = hasBit b c.bit := by
  simp [hasBit, bit_lt_seven]

end Notice

/-! ### IDENT (R182) -/

section Ident

variable {tag : Byte} {p : List Byte} {s : State}

theorem exec_ident :
    exec (.ident tag p) s = request 0x01 answerIdent tag p s := by
  rfl

/-- The fixed quantities of the part, byte by byte in the layout of the IDENT reply. -/
theorem answerIdent_nil :
    answerIdent [] s = report [0x57, 0x40, 0x06, 3, 40, 24, 8, 12, 6, 0x00, 0x04, 8, 24] s := lengthIs_of_eq rfl

theorem answerIdent_of_ne_nil (hp : p ≠ []) : answerIdent p s = refuse .badLength s :=
  lengthIs_of_ne (by simpa using hp)

end Ident

/-! ### STATUS (R183) -/

section StatusRequest

variable {tag : Byte} {p : List Byte} {s : State}

theorem exec_status :
    exec (.status tag p) s = request 0x02 answerStatus tag p s := by
  rfl

/-- The data of the reply byte by byte in the layout of the STATUS reply, its flags with the weights of their bits. -/
theorem statusData_eq :
    statusData s =
      [s.gallery.mode.code,
        byte ((if s.gallery.safetyFixed then 1 else 0) + (if s.link.noticesLost then 2 else 0)
          + (if s.alerts.overflow then 4 else 0) + (if s.admission.hold then 8 else 0)),
        s.safety.supply.state.code] ++ le16 s.safety.supply.latest
        ++ [(s.group 0).state.code, (s.group 1).state.code, (s.group 2).state.code, (s.group 3).state.code,
            (s.group 4).state.code, (s.group 5).state.code]
        ++ le32 s.now.toNat ++ [byte s.link.enables.toNat, byte s.link.notices.length] := rfl

/-- The data is read before the flag is cleared. -/
theorem answerStatus_nil :
    answerStatus [] s = report (statusData s) (s.setLink { s.link with noticesLost := false }) := lengthIs_of_eq rfl

theorem answerStatus_of_ne_nil (hp : p ≠ []) : answerStatus p s = refuse .badLength s :=
  lengthIs_of_ne (by simpa using hp)

end StatusRequest

/-- Settles O4: a free handler answers at once, whatever the mode; the layouts are read off the answers, and a full notice
queue has no room for a further notice. -/
theorem identAndStatusAnswerInEveryMode : Obligations.IdentAndStatusAnswerInEveryMode := by
  unfold Obligations.IdentAndStatusAnswerInEveryMode
  refine ⟨fun s tag p hs => ⟨?ident, ?identLength⟩, fun s tag p hs => ⟨?statusLength, ?status⟩, ?dropped⟩
  case ident =>
    rintro rfl
    rw [exec_ident]
    exact request_of_report hs answerIdent_nil rfl
  case identLength =>
    intro hp
    rw [exec_ident]
    exact request_of_refuse hs (answerIdent_of_ne_nil hp)
  case statusLength =>
    intro hp
    rw [exec_status]
    exact request_of_refuse hs (answerStatus_of_ne_nil hp)
  case status =>
    rw [exec_status, ← statusData_eq]
    exact request_of_report hs answerStatus_nil rfl
  case dropped =>
    intro t c ty p henabled hfull
    rw [sendNotice_of_enabled henabled, pushNotice_of_full hfull]
    rfl

/-! ### NOTICE_ENABLE (R178) -/

section NoticeEnable

variable {tag b : Byte} {p : List Byte} {s : State}

/-- The state with the low seven bits of a byte as its enables, nothing else changed. -/
def withEnables (b : Byte) (s : State) : State := s.setLink { s.link with enables := BitVec.ofNat 7 b.toNat }

theorem exec_noticeEnable :
    exec (.noticeEnable tag p) s = request 0x05 answerNoticeEnable tag p s := by
  rfl

theorem answerNoticeEnable_of_lt (hb : b.toNat < 128) : answerNoticeEnable [b] s = accept (withEnables b s) :=
  (lengthIs_of_eq rfl).trans (if_pos hb)

theorem answerNoticeEnable_of_le (hb : 128 ≤ b.toNat) : answerNoticeEnable [b] s = refuse .badValue s :=
  (lengthIs_of_eq rfl).trans (if_neg (Nat.not_lt.mpr hb))

theorem hasBit_enables_withEnables (c : NoticeClass) :
    hasBit (withEnables b s).link.enables c.bit = hasBit b c.bit := hasBit_ofNat_toNat b c

theorem sendNotice_withEnables (c : NoticeClass) (ty : Byte) (p : List Byte) :
    sendNotice c ty p (withEnables b s) =
      if hasBit b c.bit then pushNotice ⟨ty, 0, p⟩ (withEnables b s) else withEnables b s := by
  rw [sendNotice, hasBit_enables_withEnables]

end NoticeEnable

/-- Settles O5: an accepted set becomes the seven enables, which are all that a notice is asked for; a byte of 128 or more
has the bit above them. -/
theorem noticeEnableReplacesTheSet : Obligations.NoticeEnableReplacesTheSet := by
  unfold Obligations.NoticeEnableReplacesTheSet
  intro s tag b hs
  simp only [exec_noticeEnable]
  refine ⟨fun hb => ⟨withEnables b s, ?accepted, hasBit_enables_withEnables, rfl, sendNotice_withEnables⟩, fun hb => ?refused⟩
  case accepted => exact request_of_accept hs (answerNoticeEnable_of_lt hb)
  case refused => exact request_of_refuse hs (answerNoticeEnable_of_le hb)

end Sys2Proof.Proofs
end
